-- ==== Sys2Proof/Word.lean ====
section
/-! DEFINITION. The two data widths of the block (00_scope.md R6): a Byte is 8 bits, a Word is 16 bits.
Their addition and subtraction are BitVec's, which wrap modulo 256 and 65536 as R6 and R9 say. -/

namespace Sys2Proof

/-- A Byte: 8 bits, bit 0 the least significant (00_scope.md R6, R8). -/
abbrev Byte := BitVec 8

/-- A Word: 16 bits, bit 0 the least significant (00_scope.md R6, R8). -/
abbrev Word := BitVec 16

end Sys2Proof
end

