-- ==== Sys2Proof/Syntax.lean ====
section
/-! DEFINITION. The syntax of the block: operand selections, the closed enumeration of opcode tags (30_encoding.md R71),
the decoder's window and triple (R70), and the instructions, one constructor for each row of spec/opcode_table.json.
An instruction is its tag with the operand Bytes assembled (R78); `Instr.tag`, `Instr.len` and `Instr.usedPrefix` give the
decoder's triple of each. -/

namespace Sys2Proof

/-- The eight 8-bit operand selections, in the order of their codes 0 to 7 (30_encoding.md R75). `memHl` is `(HL)`. -/
inductive Operand8 where
  | b
  | c
  | d
  | e
  | h
  | l
  | memHl
  | a
  deriving DecidableEq, Repr

/-- The eight conditions, in the order of their codes 0 to 7 (30_encoding.md R77). -/
inductive Cond where
  | nz
  | z
  | nc
  | c
  | po
  | pe
  | p
  | m
  deriving DecidableEq, Repr

/-- The four conditions of JR cc,d: code y - 4 of 30_encoding.md R77. -/
inductive RelCond where
  | nz
  | z
  | nc
  | c
  deriving DecidableEq, Repr

/-- JR's condition as one of the full table (30_encoding.md R77). -/
def RelCond.toCond : RelCond → Cond
  | .nz => .nz
  | .z => .z
  | .nc => .nc
  | .c => .c

/-- The pairs `rp` (30_encoding.md R82). -/
inductive Pair where
  | bc
  | de
  | hl
  | sp
  deriving DecidableEq, Repr

/-- The pairs `rp2` (30_encoding.md R82). -/
inductive Pair2 where
  | bc
  | de
  | hl
  | af
  deriving DecidableEq, Repr

/-- An opcode tag: a value of a closed enumeration that carries no operand payload (30_encoding.md R71).
The first group is S (R81), the second the recognised opcodes outside S (R82), the last is `Invalid`. -/
inductive Tag where
  | nop
  | exAfAf
  | jr
  | jrCc (cc : RelCond)
  | incR (r : Operand8)
  | decR (r : Operand8)
  | rrca
  | andR (r : Operand8)
  | xorR (r : Operand8)
  | orR (r : Operand8)
  | cpR (r : Operand8)
  | jpCc (cc : Cond)
  | jp
  | ret
  | call
  | di
  | andN
  | xorN
  | orN
  | cpN
  | djnzD
  | ldRpNn (p : Pair)
  | addHlRp (p : Pair)
  | ldMemBcA
  | ldAMemBc
  | ldMemDeA
  | ldAMemDe
  | ldMemNnHl
  | ldHlMemNn
  | ldMemNnA
  | ldAMemNn
  | incRp (p : Pair)
  | decRp (p : Pair)
  | ldRN (r : Operand8)
  | rlca
  | rla
  | rra
  | daa
  | cpl
  | scf
  | ccf
  | ldRR (dst src : Operand8)
  | halt
  | addAR (r : Operand8)
  | adcAR (r : Operand8)
  | subR (r : Operand8)
  | sbcAR (r : Operand8)
  | retCc (cc : Cond)
  | popRp2 (p : Pair2)
  | exx
  | jpMemHl
  | ldSpHl
  | outMemNA
  | inAMemN
  | exMemSpHl
  | exDeHl
  | ei
  | callCcNn (cc : Cond)
  | pushRp2 (p : Pair2)
  | addAN
  | adcAN
  | subN
  | sbcAN
  | rst (y : BitVec 3)
  | invalid
  deriving DecidableEq, Repr

/-- Where a tag falls: executed, recognised but not executed, or no opcode (00_scope.md R3, R12). -/
inductive TagClass where
  | implemented
  | unimplemented
  | invalid
  deriving DecidableEq, Repr

/-- The class of a tag (30_encoding.md R81, R82, R80). -/
def Tag.cls : Tag → TagClass
  | .nop | .exAfAf | .jr | .jrCc _ | .incR _ | .decR _ | .rrca | .andR _ | .xorR _ | .orR _ | .cpR _ => .implemented
  | .jpCc _ | .jp | .ret | .call | .di | .andN | .xorN | .orN | .cpN => .implemented
  | .djnzD | .ldRpNn _ | .addHlRp _ | .ldMemBcA | .ldAMemBc | .ldMemDeA | .ldAMemDe => .unimplemented
  | .ldMemNnHl | .ldHlMemNn | .ldMemNnA | .ldAMemNn | .incRp _ | .decRp _ | .ldRN _ => .unimplemented
  | .rlca | .rla | .rra | .daa | .cpl | .scf | .ccf | .ldRR _ _ | .halt => .unimplemented
  | .addAR _ | .adcAR _ | .subR _ | .sbcAR _ | .retCc _ | .popRp2 _ | .exx | .jpMemHl | .ldSpHl => .unimplemented
  | .outMemNA | .inAMemN | .exMemSpHl | .exDeHl | .ei | .callCcNn _ | .pushRp2 _ => .unimplemented
  | .addAN | .adcAN | .subN | .sbcAN | .rst _ => .unimplemented
  | .invalid => .invalid

/-- The length column of the tables of 30_encoding.md R81 and R82; 1 for `Invalid` (R74, R80). -/
def Tag.len : Tag → Nat
  | .nop | .exAfAf | .incR _ | .decR _ | .rrca | .andR _ | .xorR _ | .orR _ | .cpR _ | .ret | .di => 1
  | .jr | .jrCc _ | .andN | .xorN | .orN | .cpN => 2
  | .jpCc _ | .jp | .call => 3
  | .djnzD | .ldRN _ | .outMemNA | .inAMemN | .addAN | .adcAN | .subN | .sbcAN => 2
  | .ldRpNn _ | .ldMemNnHl | .ldHlMemNn | .ldMemNnA | .ldAMemNn | .callCcNn _ => 3
  | .addHlRp _ | .ldMemBcA | .ldAMemBc | .ldMemDeA | .ldAMemDe | .incRp _ | .decRp _ => 1
  | .rlca | .rla | .rra | .daa | .cpl | .scf | .ccf | .ldRR _ _ | .halt => 1
  | .addAR _ | .adcAR _ | .subR _ | .sbcAR _ | .retCc _ | .popRp2 _ | .exx | .jpMemHl | .ldSpHl => 1
  | .exMemSpHl | .exDeHl | .ei | .pushRp2 _ | .rst _ => 1
  | .invalid => 1

/-- The 4-Byte fetch window (20_memory.md R57); `b0` is `win[0]`, the Byte at the pre-step PC. -/
structure Window where
  b0 : Byte
  b1 : Byte
  b2 : Byte
  b3 : Byte
  deriving DecidableEq, Repr

/-- What the Decoder returns: tag, length in Bytes and the prefix flag (30_encoding.md R70). -/
structure Decoded where
  tag        : Tag
  len        : Nat
  usedPrefix : Bool
  deriving DecidableEq, Repr

/-- The one way a Byte fails to match the tables (30_encoding.md R74): never met, by R83. -/
inductive DecodeError where
  /-- No row of the tables matches the opcode Byte. -/
  | noMatch
  deriving DecidableEq, Repr

/-- The instructions: one constructor for each row of spec/opcode_table.json, the quarters of the table in the order x = 3,
0, 1, 2 (Lean's compiler wants constructors with arguments among the first 244), with the operand the row's encoding carries: `n` an unsigned Byte, `d` a displacement Byte, `nn` a Word (30_encoding.md R78), `second` the Byte
after a prefix (R80). -/
inductive Instr where
  /-- 0xC0 RET NZ (R152). -/
  | retNz
  /-- 0xC1 POP BC (R152). -/
  | popBc
  /-- 0xC2 JP NZ,nn (R132). -/
  | jpNzNn (nn : Word)
  /-- 0xC3 JP nn (R131). -/
  | jpNn (nn : Word)
  /-- 0xC4 CALL NZ,nn (R152). -/
  | callNzNn (nn : Word)
  /-- 0xC5 PUSH BC (R152). -/
  | pushBc
  /-- 0xC6 ADD A,n (R152). -/
  | addAN (n : Byte)
  /-- 0xC7 RST 0x00 (R152). -/
  | rst00
  /-- 0xC8 RET Z (R152). -/
  | retZ
  /-- 0xC9 RET (R135). -/
  | ret
  /-- 0xCA JP Z,nn (R132). -/
  | jpZNn (nn : Word)
  /-- 0xCB prefix 0xCB (any secondary opcode) (R153). -/
  | prefixCb (second : Byte)
  /-- 0xCC CALL Z,nn (R152). -/
  | callZNn (nn : Word)
  /-- 0xCD CALL nn (R134). -/
  | callNn (nn : Word)
  /-- 0xCE ADC A,n (R152). -/
  | adcAN (n : Byte)
  /-- 0xCF RST 0x08 (R152). -/
  | rst08
  /-- 0xD0 RET NC (R152). -/
  | retNc
  /-- 0xD1 POP DE (R152). -/
  | popDe
  /-- 0xD2 JP NC,nn (R132). -/
  | jpNcNn (nn : Word)
  /-- 0xD3 OUT (n),A (R152). -/
  | outMemNA (n : Byte)
  /-- 0xD4 CALL NC,nn (R152). -/
  | callNcNn (nn : Word)
  /-- 0xD5 PUSH DE (R152). -/
  | pushDe
  /-- 0xD6 SUB n (R152). -/
  | subN (n : Byte)
  /-- 0xD7 RST 0x10 (R152). -/
  | rst10
  /-- 0xD8 RET C (R152). -/
  | retC
  /-- 0xD9 EXX (R152). -/
  | exx
  /-- 0xDA JP C,nn (R132). -/
  | jpCNn (nn : Word)
  /-- 0xDB IN A,(n) (R152). -/
  | inAMemN (n : Byte)
  /-- 0xDC CALL C,nn (R152). -/
  | callCNn (nn : Word)
  /-- 0xDD prefix 0xDD (any secondary opcode) (R153). -/
  | prefixDd (second : Byte)
  /-- 0xDE SBC A,n (R152). -/
  | sbcAN (n : Byte)
  /-- 0xDF RST 0x18 (R152). -/
  | rst18
  /-- 0xE0 RET PO (R152). -/
  | retPo
  /-- 0xE1 POP HL (R152). -/
  | popHl
  /-- 0xE2 JP PO,nn (R132). -/
  | jpPoNn (nn : Word)
  /-- 0xE3 EX (SP),HL (R152). -/
  | exMemSpHl
  /-- 0xE4 CALL PO,nn (R152). -/
  | callPoNn (nn : Word)
  /-- 0xE5 PUSH HL (R152). -/
  | pushHl
  /-- 0xE6 AND n (R103). -/
  | andN (n : Byte)
  /-- 0xE7 RST 0x20 (R152). -/
  | rst20
  /-- 0xE8 RET PE (R152). -/
  | retPe
  /-- 0xE9 JP (HL) (R152). -/
  | jpMemHl
  /-- 0xEA JP PE,nn (R132). -/
  | jpPeNn (nn : Word)
  /-- 0xEB EX DE,HL (R152). -/
  | exDeHl
  /-- 0xEC CALL PE,nn (R152). -/
  | callPeNn (nn : Word)
  /-- 0xED prefix 0xED (any secondary opcode) (R153). -/
  | prefixEd (second : Byte)
  /-- 0xEE XOR n (R107). -/
  | xorN (n : Byte)
  /-- 0xEF RST 0x28 (R152). -/
  | rst28
  /-- 0xF0 RET P (R152). -/
  | retP
  /-- 0xF1 POP AF (R152). -/
  | popAf
  /-- 0xF2 JP P,nn (R132). -/
  | jpPNn (nn : Word)
  /-- 0xF3 DI (R150). -/
  | di
  /-- 0xF4 CALL P,nn (R152). -/
  | callPNn (nn : Word)
  /-- 0xF5 PUSH AF (R152). -/
  | pushAf
  /-- 0xF6 OR n (R105). -/
  | orN (n : Byte)
  /-- 0xF7 RST 0x30 (R152). -/
  | rst30
  /-- 0xF8 RET M (R152). -/
  | retM
  /-- 0xF9 LD SP,HL (R152). -/
  | ldSpHl
  /-- 0xFA JP M,nn (R132). -/
  | jpMNn (nn : Word)
  /-- 0xFB EI (R152). -/
  | ei
  /-- 0xFC CALL M,nn (R152). -/
  | callMNn (nn : Word)
  /-- 0xFD prefix 0xFD (any secondary opcode) (R153). -/
  | prefixFd (second : Byte)
  /-- 0xFE CP n (R109). -/
  | cpN (n : Byte)
  /-- 0xFF RST 0x38 (R152). -/
  | rst38
  /-- 0x00 NOP (R130). -/
  | nop
  /-- 0x01 LD BC,nn (R152). -/
  | ldBcNn (nn : Word)
  /-- 0x02 LD (BC),A (R152). -/
  | ldMemBcA
  /-- 0x03 INC BC (R152). -/
  | incBc
  /-- 0x04 INC B (R110). -/
  | incB
  /-- 0x05 DEC B (R111). -/
  | decB
  /-- 0x06 LD B,n (R152). -/
  | ldBN (n : Byte)
  /-- 0x07 RLCA (R152). -/
  | rlca
  /-- 0x08 EX AF,AF' (R151). -/
  | exAfAf
  /-- 0x09 ADD HL,BC (R152). -/
  | addHlBc
  /-- 0x0A LD A,(BC) (R152). -/
  | ldAMemBc
  /-- 0x0B DEC BC (R152). -/
  | decBc
  /-- 0x0C INC C (R110). -/
  | incC
  /-- 0x0D DEC C (R111). -/
  | decC
  /-- 0x0E LD C,n (R152). -/
  | ldCN (n : Byte)
  /-- 0x0F RRCA (R112). -/
  | rrca
  /-- 0x10 DJNZ d (R152). -/
  | djnzD (d : Byte)
  /-- 0x11 LD DE,nn (R152). -/
  | ldDeNn (nn : Word)
  /-- 0x12 LD (DE),A (R152). -/
  | ldMemDeA
  /-- 0x13 INC DE (R152). -/
  | incDe
  /-- 0x14 INC D (R110). -/
  | incD
  /-- 0x15 DEC D (R111). -/
  | decD
  /-- 0x16 LD D,n (R152). -/
  | ldDN (n : Byte)
  /-- 0x17 RLA (R152). -/
  | rla
  /-- 0x18 JR d (R133). -/
  | jrD (d : Byte)
  /-- 0x19 ADD HL,DE (R152). -/
  | addHlDe
  /-- 0x1A LD A,(DE) (R152). -/
  | ldAMemDe
  /-- 0x1B DEC DE (R152). -/
  | decDe
  /-- 0x1C INC E (R110). -/
  | incE
  /-- 0x1D DEC E (R111). -/
  | decE
  /-- 0x1E LD E,n (R152). -/
  | ldEN (n : Byte)
  /-- 0x1F RRA (R152). -/
  | rra
  /-- 0x20 JR NZ,d (R137). -/
  | jrNzD (d : Byte)
  /-- 0x21 LD HL,nn (R152). -/
  | ldHlNn (nn : Word)
  /-- 0x22 LD (nn),HL (R152). -/
  | ldMemNnHl (nn : Word)
  /-- 0x23 INC HL (R152). -/
  | incHl
  /-- 0x24 INC H (R110). -/
  | incH
  /-- 0x25 DEC H (R111). -/
  | decH
  /-- 0x26 LD H,n (R152). -/
  | ldHN (n : Byte)
  /-- 0x27 DAA (R152). -/
  | daa
  /-- 0x28 JR Z,d (R137). -/
  | jrZD (d : Byte)
  /-- 0x29 ADD HL,HL (R152). -/
  | addHlHl
  /-- 0x2A LD HL,(nn) (R152). -/
  | ldHlMemNn (nn : Word)
  /-- 0x2B DEC HL (R152). -/
  | decHl
  /-- 0x2C INC L (R110). -/
  | incL
  /-- 0x2D DEC L (R111). -/
  | decL
  /-- 0x2E LD L,n (R152). -/
  | ldLN (n : Byte)
  /-- 0x2F CPL (R152). -/
  | cpl
  /-- 0x30 JR NC,d (R137). -/
  | jrNcD (d : Byte)
  /-- 0x31 LD SP,nn (R152). -/
  | ldSpNn (nn : Word)
  /-- 0x32 LD (nn),A (R152). -/
  | ldMemNnA (nn : Word)
  /-- 0x33 INC SP (R152). -/
  | incSp
  /-- 0x34 INC (HL) (R110). -/
  | incMemHl
  /-- 0x35 DEC (HL) (R111). -/
  | decMemHl
  /-- 0x36 LD (HL),n (R152). -/
  | ldMemHlN (n : Byte)
  /-- 0x37 SCF (R152). -/
  | scf
  /-- 0x38 JR C,d (R137). -/
  | jrCD (d : Byte)
  /-- 0x39 ADD HL,SP (R152). -/
  | addHlSp
  /-- 0x3A LD A,(nn) (R152). -/
  | ldAMemNn (nn : Word)
  /-- 0x3B DEC SP (R152). -/
  | decSp
  /-- 0x3C INC A (R110). -/
  | incA
  /-- 0x3D DEC A (R111). -/
  | decA
  /-- 0x3E LD A,n (R152). -/
  | ldAN (n : Byte)
  /-- 0x3F CCF (R152). -/
  | ccf
  /-- 0x40 LD B,B (R152). -/
  | ldBB
  /-- 0x41 LD B,C (R152). -/
  | ldBC
  /-- 0x42 LD B,D (R152). -/
  | ldBD
  /-- 0x43 LD B,E (R152). -/
  | ldBE
  /-- 0x44 LD B,H (R152). -/
  | ldBH
  /-- 0x45 LD B,L (R152). -/
  | ldBL
  /-- 0x46 LD B,(HL) (R152). -/
  | ldBMemHl
  /-- 0x47 LD B,A (R152). -/
  | ldBA
  /-- 0x48 LD C,B (R152). -/
  | ldCB
  /-- 0x49 LD C,C (R152). -/
  | ldCC
  /-- 0x4A LD C,D (R152). -/
  | ldCD
  /-- 0x4B LD C,E (R152). -/
  | ldCE
  /-- 0x4C LD C,H (R152). -/
  | ldCH
  /-- 0x4D LD C,L (R152). -/
  | ldCL
  /-- 0x4E LD C,(HL) (R152). -/
  | ldCMemHl
  /-- 0x4F LD C,A (R152). -/
  | ldCA
  /-- 0x50 LD D,B (R152). -/
  | ldDB
  /-- 0x51 LD D,C (R152). -/
  | ldDC
  /-- 0x52 LD D,D (R152). -/
  | ldDD
  /-- 0x53 LD D,E (R152). -/
  | ldDE
  /-- 0x54 LD D,H (R152). -/
  | ldDH
  /-- 0x55 LD D,L (R152). -/
  | ldDL
  /-- 0x56 LD D,(HL) (R152). -/
  | ldDMemHl
  /-- 0x57 LD D,A (R152). -/
  | ldDA
  /-- 0x58 LD E,B (R152). -/
  | ldEB
  /-- 0x59 LD E,C (R152). -/
  | ldEC
  /-- 0x5A LD E,D (R152). -/
  | ldED
  /-- 0x5B LD E,E (R152). -/
  | ldEE
  /-- 0x5C LD E,H (R152). -/
  | ldEH
  /-- 0x5D LD E,L (R152). -/
  | ldEL
  /-- 0x5E LD E,(HL) (R152). -/
  | ldEMemHl
  /-- 0x5F LD E,A (R152). -/
  | ldEA
  /-- 0x60 LD H,B (R152). -/
  | ldHB
  /-- 0x61 LD H,C (R152). -/
  | ldHC
  /-- 0x62 LD H,D (R152). -/
  | ldHD
  /-- 0x63 LD H,E (R152). -/
  | ldHE
  /-- 0x64 LD H,H (R152). -/
  | ldHH
  /-- 0x65 LD H,L (R152). -/
  | ldHL
  /-- 0x66 LD H,(HL) (R152). -/
  | ldHMemHl
  /-- 0x67 LD H,A (R152). -/
  | ldHA
  /-- 0x68 LD L,B (R152). -/
  | ldLB
  /-- 0x69 LD L,C (R152). -/
  | ldLC
  /-- 0x6A LD L,D (R152). -/
  | ldLD
  /-- 0x6B LD L,E (R152). -/
  | ldLE
  /-- 0x6C LD L,H (R152). -/
  | ldLH
  /-- 0x6D LD L,L (R152). -/
  | ldLL
  /-- 0x6E LD L,(HL) (R152). -/
  | ldLMemHl
  /-- 0x6F LD L,A (R152). -/
  | ldLA
  /-- 0x70 LD (HL),B (R152). -/
  | ldMemHlB
  /-- 0x71 LD (HL),C (R152). -/
  | ldMemHlC
  /-- 0x72 LD (HL),D (R152). -/
  | ldMemHlD
  /-- 0x73 LD (HL),E (R152). -/
  | ldMemHlE
  /-- 0x74 LD (HL),H (R152). -/
  | ldMemHlH
  /-- 0x75 LD (HL),L (R152). -/
  | ldMemHlL
  /-- 0x76 HALT (R152). -/
  | halt
  /-- 0x77 LD (HL),A (R152). -/
  | ldMemHlA
  /-- 0x78 LD A,B (R152). -/
  | ldAB
  /-- 0x79 LD A,C (R152). -/
  | ldAC
  /-- 0x7A LD A,D (R152). -/
  | ldAD
  /-- 0x7B LD A,E (R152). -/
  | ldAE
  /-- 0x7C LD A,H (R152). -/
  | ldAH
  /-- 0x7D LD A,L (R152). -/
  | ldAL
  /-- 0x7E LD A,(HL) (R152). -/
  | ldAMemHl
  /-- 0x7F LD A,A (R152). -/
  | ldAA
  /-- 0x80 ADD A,B (R152). -/
  | addAB
  /-- 0x81 ADD A,C (R152). -/
  | addAC
  /-- 0x82 ADD A,D (R152). -/
  | addAD
  /-- 0x83 ADD A,E (R152). -/
  | addAE
  /-- 0x84 ADD A,H (R152). -/
  | addAH
  /-- 0x85 ADD A,L (R152). -/
  | addAL
  /-- 0x86 ADD A,(HL) (R152). -/
  | addAMemHl
  /-- 0x87 ADD A,A (R152). -/
  | addAA
  /-- 0x88 ADC A,B (R152). -/
  | adcAB
  /-- 0x89 ADC A,C (R152). -/
  | adcAC
  /-- 0x8A ADC A,D (R152). -/
  | adcAD
  /-- 0x8B ADC A,E (R152). -/
  | adcAE
  /-- 0x8C ADC A,H (R152). -/
  | adcAH
  /-- 0x8D ADC A,L (R152). -/
  | adcAL
  /-- 0x8E ADC A,(HL) (R152). -/
  | adcAMemHl
  /-- 0x8F ADC A,A (R152). -/
  | adcAA
  /-- 0x90 SUB B (R152). -/
  | subB
  /-- 0x91 SUB C (R152). -/
  | subC
  /-- 0x92 SUB D (R152). -/
  | subD
  /-- 0x93 SUB E (R152). -/
  | subE
  /-- 0x94 SUB H (R152). -/
  | subH
  /-- 0x95 SUB L (R152). -/
  | subL
  /-- 0x96 SUB (HL) (R152). -/
  | subMemHl
  /-- 0x97 SUB A (R152). -/
  | subA
  /-- 0x98 SBC A,B (R152). -/
  | sbcAB
  /-- 0x99 SBC A,C (R152). -/
  | sbcAC
  /-- 0x9A SBC A,D (R152). -/
  | sbcAD
  /-- 0x9B SBC A,E (R152). -/
  | sbcAE
  /-- 0x9C SBC A,H (R152). -/
  | sbcAH
  /-- 0x9D SBC A,L (R152). -/
  | sbcAL
  /-- 0x9E SBC A,(HL) (R152). -/
  | sbcAMemHl
  /-- 0x9F SBC A,A (R152). -/
  | sbcAA
  /-- 0xA0 AND B (R102). -/
  | andB
  /-- 0xA1 AND C (R102). -/
  | andC
  /-- 0xA2 AND D (R102). -/
  | andD
  /-- 0xA3 AND E (R102). -/
  | andE
  /-- 0xA4 AND H (R102). -/
  | andH
  /-- 0xA5 AND L (R102). -/
  | andL
  /-- 0xA6 AND (HL) (R102). -/
  | andMemHl
  /-- 0xA7 AND A (R102). -/
  | andA
  /-- 0xA8 XOR B (R106). -/
  | xorB
  /-- 0xA9 XOR C (R106). -/
  | xorC
  /-- 0xAA XOR D (R106). -/
  | xorD
  /-- 0xAB XOR E (R106). -/
  | xorE
  /-- 0xAC XOR H (R106). -/
  | xorH
  /-- 0xAD XOR L (R106). -/
  | xorL
  /-- 0xAE XOR (HL) (R106). -/
  | xorMemHl
  /-- 0xAF XOR A (R106). -/
  | xorA
  /-- 0xB0 OR B (R104). -/
  | orB
  /-- 0xB1 OR C (R104). -/
  | orC
  /-- 0xB2 OR D (R104). -/
  | orD
  /-- 0xB3 OR E (R104). -/
  | orE
  /-- 0xB4 OR H (R104). -/
  | orH
  /-- 0xB5 OR L (R104). -/
  | orL
  /-- 0xB6 OR (HL) (R104). -/
  | orMemHl
  /-- 0xB7 OR A (R104). -/
  | orA
  /-- 0xB8 CP B (R108). -/
  | cpB
  /-- 0xB9 CP C (R108). -/
  | cpC
  /-- 0xBA CP D (R108). -/
  | cpD
  /-- 0xBB CP E (R108). -/
  | cpE
  /-- 0xBC CP H (R108). -/
  | cpH
  /-- 0xBD CP L (R108). -/
  | cpL
  /-- 0xBE CP (HL) (R108). -/
  | cpMemHl
  /-- 0xBF CP A (R108). -/
  | cpA
  deriving DecidableEq, Repr

/-- The tag of an instruction: the table's `tag` column (30_encoding.md R71, R81, R82). -/
def Instr.tag : Instr → Tag
  | .nop => .nop
  | .ldBcNn _ => .ldRpNn .bc
  | .ldMemBcA => .ldMemBcA
  | .incBc => .incRp .bc
  | .incB => .incR .b
  | .decB => .decR .b
  | .ldBN _ => .ldRN .b
  | .rlca => .rlca
  | .exAfAf => .exAfAf
  | .addHlBc => .addHlRp .bc
  | .ldAMemBc => .ldAMemBc
  | .decBc => .decRp .bc
  | .incC => .incR .c
  | .decC => .decR .c
  | .ldCN _ => .ldRN .c
  | .rrca => .rrca
  | .djnzD _ => .djnzD
  | .ldDeNn _ => .ldRpNn .de
  | .ldMemDeA => .ldMemDeA
  | .incDe => .incRp .de
  | .incD => .incR .d
  | .decD => .decR .d
  | .ldDN _ => .ldRN .d
  | .rla => .rla
  | .jrD _ => .jr
  | .addHlDe => .addHlRp .de
  | .ldAMemDe => .ldAMemDe
  | .decDe => .decRp .de
  | .incE => .incR .e
  | .decE => .decR .e
  | .ldEN _ => .ldRN .e
  | .rra => .rra
  | .jrNzD _ => .jrCc .nz
  | .ldHlNn _ => .ldRpNn .hl
  | .ldMemNnHl _ => .ldMemNnHl
  | .incHl => .incRp .hl
  | .incH => .incR .h
  | .decH => .decR .h
  | .ldHN _ => .ldRN .h
  | .daa => .daa
  | .jrZD _ => .jrCc .z
  | .addHlHl => .addHlRp .hl
  | .ldHlMemNn _ => .ldHlMemNn
  | .decHl => .decRp .hl
  | .incL => .incR .l
  | .decL => .decR .l
  | .ldLN _ => .ldRN .l
  | .cpl => .cpl
  | .jrNcD _ => .jrCc .nc
  | .ldSpNn _ => .ldRpNn .sp
  | .ldMemNnA _ => .ldMemNnA
  | .incSp => .incRp .sp
  | .incMemHl => .incR .memHl
  | .decMemHl => .decR .memHl
  | .ldMemHlN _ => .ldRN .memHl
  | .scf => .scf
  | .jrCD _ => .jrCc .c
  | .addHlSp => .addHlRp .sp
  | .ldAMemNn _ => .ldAMemNn
  | .decSp => .decRp .sp
  | .incA => .incR .a
  | .decA => .decR .a
  | .ldAN _ => .ldRN .a
  | .ccf => .ccf
  | .ldBB => .ldRR .b .b
  | .ldBC => .ldRR .b .c
  | .ldBD => .ldRR .b .d
  | .ldBE => .ldRR .b .e
  | .ldBH => .ldRR .b .h
  | .ldBL => .ldRR .b .l
  | .ldBMemHl => .ldRR .b .memHl
  | .ldBA => .ldRR .b .a
  | .ldCB => .ldRR .c .b
  | .ldCC => .ldRR .c .c
  | .ldCD => .ldRR .c .d
  | .ldCE => .ldRR .c .e
  | .ldCH => .ldRR .c .h
  | .ldCL => .ldRR .c .l
  | .ldCMemHl => .ldRR .c .memHl
  | .ldCA => .ldRR .c .a
  | .ldDB => .ldRR .d .b
  | .ldDC => .ldRR .d .c
  | .ldDD => .ldRR .d .d
  | .ldDE => .ldRR .d .e
  | .ldDH => .ldRR .d .h
  | .ldDL => .ldRR .d .l
  | .ldDMemHl => .ldRR .d .memHl
  | .ldDA => .ldRR .d .a
  | .ldEB => .ldRR .e .b
  | .ldEC => .ldRR .e .c
  | .ldED => .ldRR .e .d
  | .ldEE => .ldRR .e .e
  | .ldEH => .ldRR .e .h
  | .ldEL => .ldRR .e .l
  | .ldEMemHl => .ldRR .e .memHl
  | .ldEA => .ldRR .e .a
  | .ldHB => .ldRR .h .b
  | .ldHC => .ldRR .h .c
  | .ldHD => .ldRR .h .d
  | .ldHE => .ldRR .h .e
  | .ldHH => .ldRR .h .h
  | .ldHL => .ldRR .h .l
  | .ldHMemHl => .ldRR .h .memHl
  | .ldHA => .ldRR .h .a
  | .ldLB => .ldRR .l .b
  | .ldLC => .ldRR .l .c
  | .ldLD => .ldRR .l .d
  | .ldLE => .ldRR .l .e
  | .ldLH => .ldRR .l .h
  | .ldLL => .ldRR .l .l
  | .ldLMemHl => .ldRR .l .memHl
  | .ldLA => .ldRR .l .a
  | .ldMemHlB => .ldRR .memHl .b
  | .ldMemHlC => .ldRR .memHl .c
  | .ldMemHlD => .ldRR .memHl .d
  | .ldMemHlE => .ldRR .memHl .e
  | .ldMemHlH => .ldRR .memHl .h
  | .ldMemHlL => .ldRR .memHl .l
  | .halt => .halt
  | .ldMemHlA => .ldRR .memHl .a
  | .ldAB => .ldRR .a .b
  | .ldAC => .ldRR .a .c
  | .ldAD => .ldRR .a .d
  | .ldAE => .ldRR .a .e
  | .ldAH => .ldRR .a .h
  | .ldAL => .ldRR .a .l
  | .ldAMemHl => .ldRR .a .memHl
  | .ldAA => .ldRR .a .a
  | .addAB => .addAR .b
  | .addAC => .addAR .c
  | .addAD => .addAR .d
  | .addAE => .addAR .e
  | .addAH => .addAR .h
  | .addAL => .addAR .l
  | .addAMemHl => .addAR .memHl
  | .addAA => .addAR .a
  | .adcAB => .adcAR .b
  | .adcAC => .adcAR .c
  | .adcAD => .adcAR .d
  | .adcAE => .adcAR .e
  | .adcAH => .adcAR .h
  | .adcAL => .adcAR .l
  | .adcAMemHl => .adcAR .memHl
  | .adcAA => .adcAR .a
  | .subB => .subR .b
  | .subC => .subR .c
  | .subD => .subR .d
  | .subE => .subR .e
  | .subH => .subR .h
  | .subL => .subR .l
  | .subMemHl => .subR .memHl
  | .subA => .subR .a
  | .sbcAB => .sbcAR .b
  | .sbcAC => .sbcAR .c
  | .sbcAD => .sbcAR .d
  | .sbcAE => .sbcAR .e
  | .sbcAH => .sbcAR .h
  | .sbcAL => .sbcAR .l
  | .sbcAMemHl => .sbcAR .memHl
  | .sbcAA => .sbcAR .a
  | .andB => .andR .b
  | .andC => .andR .c
  | .andD => .andR .d
  | .andE => .andR .e
  | .andH => .andR .h
  | .andL => .andR .l
  | .andMemHl => .andR .memHl
  | .andA => .andR .a
  | .xorB => .xorR .b
  | .xorC => .xorR .c
  | .xorD => .xorR .d
  | .xorE => .xorR .e
  | .xorH => .xorR .h
  | .xorL => .xorR .l
  | .xorMemHl => .xorR .memHl
  | .xorA => .xorR .a
  | .orB => .orR .b
  | .orC => .orR .c
  | .orD => .orR .d
  | .orE => .orR .e
  | .orH => .orR .h
  | .orL => .orR .l
  | .orMemHl => .orR .memHl
  | .orA => .orR .a
  | .cpB => .cpR .b
  | .cpC => .cpR .c
  | .cpD => .cpR .d
  | .cpE => .cpR .e
  | .cpH => .cpR .h
  | .cpL => .cpR .l
  | .cpMemHl => .cpR .memHl
  | .cpA => .cpR .a
  | .retNz => .retCc .nz
  | .popBc => .popRp2 .bc
  | .jpNzNn _ => .jpCc .nz
  | .jpNn _ => .jp
  | .callNzNn _ => .callCcNn .nz
  | .pushBc => .pushRp2 .bc
  | .addAN _ => .addAN
  | .rst00 => .rst 0#3
  | .retZ => .retCc .z
  | .ret => .ret
  | .jpZNn _ => .jpCc .z
  | .prefixCb _ => .invalid
  | .callZNn _ => .callCcNn .z
  | .callNn _ => .call
  | .adcAN _ => .adcAN
  | .rst08 => .rst 1#3
  | .retNc => .retCc .nc
  | .popDe => .popRp2 .de
  | .jpNcNn _ => .jpCc .nc
  | .outMemNA _ => .outMemNA
  | .callNcNn _ => .callCcNn .nc
  | .pushDe => .pushRp2 .de
  | .subN _ => .subN
  | .rst10 => .rst 2#3
  | .retC => .retCc .c
  | .exx => .exx
  | .jpCNn _ => .jpCc .c
  | .inAMemN _ => .inAMemN
  | .callCNn _ => .callCcNn .c
  | .prefixDd _ => .invalid
  | .sbcAN _ => .sbcAN
  | .rst18 => .rst 3#3
  | .retPo => .retCc .po
  | .popHl => .popRp2 .hl
  | .jpPoNn _ => .jpCc .po
  | .exMemSpHl => .exMemSpHl
  | .callPoNn _ => .callCcNn .po
  | .pushHl => .pushRp2 .hl
  | .andN _ => .andN
  | .rst20 => .rst 4#3
  | .retPe => .retCc .pe
  | .jpMemHl => .jpMemHl
  | .jpPeNn _ => .jpCc .pe
  | .exDeHl => .exDeHl
  | .callPeNn _ => .callCcNn .pe
  | .prefixEd _ => .invalid
  | .xorN _ => .xorN
  | .rst28 => .rst 5#3
  | .retP => .retCc .p
  | .popAf => .popRp2 .af
  | .jpPNn _ => .jpCc .p
  | .di => .di
  | .callPNn _ => .callCcNn .p
  | .pushAf => .pushRp2 .af
  | .orN _ => .orN
  | .rst30 => .rst 6#3
  | .retM => .retCc .m
  | .ldSpHl => .ldSpHl
  | .jpMNn _ => .jpCc .m
  | .ei => .ei
  | .callMNn _ => .callCcNn .m
  | .prefixFd _ => .invalid
  | .cpN _ => .cpN
  | .rst38 => .rst 7#3

/-- The length the Decoder gives an instruction (30_encoding.md R79). -/
def Instr.len (i : Instr) : Nat := i.tag.len

/-- The prefix flag the Decoder gives an instruction: true exactly on the prefix rows (30_encoding.md R70, R80). -/
def Instr.usedPrefix (i : Instr) : Bool := i.tag == .invalid

/-- The Decoder's triple for an instruction (30_encoding.md R70). -/
def Instr.triple (i : Instr) : Decoded := { tag := i.tag, len := i.len, usedPrefix := i.usedPrefix }

end Sys2Proof
end

