-- ==== Sys2Proof/WellFormed.lean ====
section
/-! DEFINITION. The checks on syntax that the types do not make. An `Instr` is well-formed by its types: every operand is a
BitVec of the width its encoding has. A `Tag` and a decoded triple, which a host may hand in (60_exceptions.md R163), and a
program image (20_memory.md R65) can be ill-formed. -/

namespace Sys2Proof

/-- `LD_r_r((HL),(HL))` is no tag: its place in the table is HALT's (30_encoding.md R82). -/
def Tag.wf : Tag → Bool
  | .ldRR dst src => !(dst == .memHl && src == .memHl)
  | _ => true

/-- An instruction is well-formed when its tag is (30_encoding.md R71); every instruction is. -/
def Instr.wf (i : Instr) : Bool := i.tag.wf

/-- A triple the Decoder can return: a tag of the tables with that tag's length (30_encoding.md R79), the prefix flag true
exactly for `Invalid` (R80, R83). -/
def Decoded.wf (t : Decoded) : Bool :=
  t.tag.wf && t.len == t.tag.len && t.usedPrefix == (t.tag == .invalid)

/-- The image fits the memory: at most 65536 Bytes (20_memory.md R65). -/
def imageFits (img : List Byte) : Bool := decide (img.length ≤ 65536)

end Sys2Proof
end

