-- ==== Sys2Proof/Decode.lean ====
section
/-! DEFINITION. The Decoder (30_encoding.md), total on every window, and the encoder.
`decode` follows R85: prefix Bytes first, then the fields x, z, y of R73 through the tables of R81 and R82, coarse to fine
(R74). `decodeInstr` adds the operands of the window (R78). The encoder is written from the opcode Bytes of the rows, not
from the fields, so that the round trip compares two readings of the tables. The Byte-order and field helpers the machine
uses stand here too. -/

namespace Sys2Proof

/-- `hi8(w) = w[15:8]` (00_scope.md R8). -/
def hi8 (w : Word) : Byte := w.extractLsb' 8 8

/-- `lo8(w) = w[7:0]` (00_scope.md R8). -/
def lo8 (w : Word) : Byte := w.extractLsb' 0 8

/-- `hi : lo`, the Word with `hi` in the high Byte (00_scope.md R8). -/
def joinBytes (hi lo : Byte) : Word := hi ++ lo

/-- `sext_16(d)`: the Byte read as two's complement, as a Word (00_scope.md R9). -/
def sext16 (d : Byte) : Word := d.signExtend 16

/-- `x = b[7:6]` (30_encoding.md R73). -/
def fieldX (b : Byte) : BitVec 2 := b.extractLsb' 6 2

/-- `y = b[5:3]` (30_encoding.md R73). -/
def fieldY (b : Byte) : BitVec 3 := b.extractLsb' 3 3

/-- `z = b[2:0]` (30_encoding.md R73). -/
def fieldZ (b : Byte) : BitVec 3 := b.extractLsb' 0 3

/-- `p = y >> 1` (30_encoding.md R73). -/
def fieldP (y : BitVec 3) : BitVec 2 := y.extractLsb' 1 2

/-- `q = y & 1` (30_encoding.md R73), as a truth value. -/
def fieldQ (y : BitVec 3) : Bool := y.getLsbD 0

/-- The operand table r (30_encoding.md R75). -/
def operand8 (code : BitVec 3) : Operand8 :=
  match code with
  | 0#3 => .b
  | 1#3 => .c
  | 2#3 => .d
  | 3#3 => .e
  | 4#3 => .h
  | 5#3 => .l
  | 6#3 => .memHl
  | 7#3 => .a

/-- The condition table cc (30_encoding.md R77). -/
def condOf (code : BitVec 3) : Cond :=
  match code with
  | 0#3 => .nz
  | 1#3 => .z
  | 2#3 => .nc
  | 3#3 => .c
  | 4#3 => .po
  | 5#3 => .pe
  | 6#3 => .p
  | 7#3 => .m

/-- JR's condition from the low two bits of y, which are y - 4 for y in 4..7 (30_encoding.md R77). -/
def relCondOf (code : BitVec 2) : RelCond :=
  match code with
  | 0#2 => .nz
  | 1#2 => .z
  | 2#2 => .nc
  | 3#2 => .c

/-- `rp = [BC, DE, HL, SP]` by p (30_encoding.md R82). -/
def pairOf (p : BitVec 2) : Pair :=
  match p with
  | 0#2 => .bc
  | 1#2 => .de
  | 2#2 => .hl
  | 3#2 => .sp

/-- `rp2 = [BC, DE, HL, AF]` by p (30_encoding.md R82). -/
def pair2Of (p : BitVec 2) : Pair2 :=
  match p with
  | 0#2 => .bc
  | 1#2 => .de
  | 2#2 => .hl
  | 3#2 => .af

/-- x = 0, z = 0 (30_encoding.md R81, R82). -/
def tagX0Z0 (y : BitVec 3) : Tag :=
  match y with
  | 0#3 => .nop
  | 1#3 => .exAfAf
  | 2#3 => .djnzD
  | 3#3 => .jr
  | 4#3 | 5#3 | 6#3 | 7#3 => .jrCc (relCondOf (y.extractLsb' 0 2))

/-- x = 0, z = 2: the indirect loads (30_encoding.md R82). -/
def tagX0Z2 (y : BitVec 3) : Tag :=
  match y with
  | 0#3 => .ldMemBcA
  | 1#3 => .ldAMemBc
  | 2#3 => .ldMemDeA
  | 3#3 => .ldAMemDe
  | 4#3 => .ldMemNnHl
  | 5#3 => .ldHlMemNn
  | 6#3 => .ldMemNnA
  | 7#3 => .ldAMemNn

/-- x = 0, z = 7: the accumulator operations (30_encoding.md R81, R82). -/
def tagX0Z7 (y : BitVec 3) : Tag :=
  match y with
  | 0#3 => .rlca
  | 1#3 => .rrca
  | 2#3 => .rla
  | 3#3 => .rra
  | 4#3 => .daa
  | 5#3 => .cpl
  | 6#3 => .scf
  | 7#3 => .ccf

/-- x = 0, by z then y (30_encoding.md R81, R82). -/
def tagX0 (z y : BitVec 3) : Tag :=
  match z with
  | 0#3 => tagX0Z0 y
  | 1#3 => if fieldQ y then .addHlRp (pairOf (fieldP y)) else .ldRpNn (pairOf (fieldP y))
  | 2#3 => tagX0Z2 y
  | 3#3 => if fieldQ y then .decRp (pairOf (fieldP y)) else .incRp (pairOf (fieldP y))
  | 4#3 => .incR (operand8 y)
  | 5#3 => .decR (operand8 y)
  | 6#3 => .ldRN (operand8 y)
  | 7#3 => tagX0Z7 y

/-- x = 1: LD r,r', but HALT where both fields name (HL) (30_encoding.md R82). -/
def tagX1 (z y : BitVec 3) : Tag :=
  if z = 6#3 ∧ y = 6#3 then .halt else .ldRR (operand8 y) (operand8 z)

/-- x = 2: the operation is y, the operand r = z (30_encoding.md R81, R82). -/
def tagX2 (z y : BitVec 3) : Tag :=
  match y with
  | 0#3 => .addAR (operand8 z)
  | 1#3 => .adcAR (operand8 z)
  | 2#3 => .subR (operand8 z)
  | 3#3 => .sbcAR (operand8 z)
  | 4#3 => .andR (operand8 z)
  | 5#3 => .xorR (operand8 z)
  | 6#3 => .orR (operand8 z)
  | 7#3 => .cpR (operand8 z)

/-- x = 3, z = 1 (30_encoding.md R81, R82). -/
def tagX3Z1 (y : BitVec 3) : Tag :=
  if fieldQ y then
    match fieldP y with
    | 0#2 => .ret
    | 1#2 => .exx
    | 2#2 => .jpMemHl
    | 3#2 => .ldSpHl
  else .popRp2 (pair2Of (fieldP y))

/-- x = 3, z = 3 (30_encoding.md R81, R82); y = 1 is the prefix 0xCB, which no row of the table matches. -/
def tagX3Z3 (y : BitVec 3) : Tag :=
  match y with
  | 0#3 => .jp
  | 1#3 => .invalid
  | 2#3 => .outMemNA
  | 3#3 => .inAMemN
  | 4#3 => .exMemSpHl
  | 5#3 => .exDeHl
  | 6#3 => .di
  | 7#3 => .ei

/-- x = 3, z = 5 (30_encoding.md R81, R82); p = 1, 2, 3 with q = 1 are the prefixes 0xDD, 0xED, 0xFD. -/
def tagX3Z5 (y : BitVec 3) : Tag :=
  if fieldQ y then
    match fieldP y with
    | 0#2 => .call
    | 1#2 | 2#2 | 3#2 => .invalid
  else .pushRp2 (pair2Of (fieldP y))

/-- x = 3, z = 6: the immediate operations (30_encoding.md R81, R82). -/
def tagX3Z6 (y : BitVec 3) : Tag :=
  match y with
  | 0#3 => .addAN
  | 1#3 => .adcAN
  | 2#3 => .subN
  | 3#3 => .sbcAN
  | 4#3 => .andN
  | 5#3 => .xorN
  | 6#3 => .orN
  | 7#3 => .cpN

/-- x = 3, by z then y (30_encoding.md R81, R82). -/
def tagX3 (z y : BitVec 3) : Tag :=
  match z with
  | 0#3 => .retCc (condOf y)
  | 1#3 => tagX3Z1 y
  | 2#3 => .jpCc (condOf y)
  | 3#3 => tagX3Z3 y
  | 4#3 => .callCcNn (condOf y)
  | 5#3 => tagX3Z5 y
  | 6#3 => tagX3Z6 y
  | 7#3 => .rst y

/-- The unprefixed table, coarse to fine (30_encoding.md R74, R81, R82); no match is `Invalid`. -/
def unprefixedTag (b : Byte) : Tag :=
  match fieldX b with
  | 0#2 => tagX0 (fieldZ b) (fieldY b)
  | 1#2 => tagX1 (fieldZ b) (fieldY b)
  | 2#2 => tagX2 (fieldZ b) (fieldY b)
  | 3#2 => tagX3 (fieldZ b) (fieldY b)

/-- The four prefix Bytes (30_encoding.md R74, R80). -/
def isPrefixByte (b : Byte) : Bool := b == 0xCB#8 || b == 0xED#8 || b == 0xDD#8 || b == 0xFD#8

/-- The whole Decoder (30_encoding.md R85): it reads nothing but the window, and of the window only `win[0]`. -/
def decode (win : Window) : Decoded :=
  if isPrefixByte win.b0 then { tag := .invalid, len := 1, usedPrefix := true }
  else { tag := unprefixedTag win.b0, len := (unprefixedTag win.b0).len, usedPrefix := false }

/-- `n = win[1]` (30_encoding.md R78). -/
def immByte (win : Window) : Byte := win.b1

/-- `nn = win[2] : win[1]`, low Byte at offset 1 (30_encoding.md R78, 20_memory.md R53). -/
def immWord (win : Window) : Word := joinBytes win.b2 win.b1

/-- INC r by its selection: the row of the table that encodes it (30_encoding.md R81). -/
def Instr.incR (sel : Operand8) : Instr :=
  match sel with
  | .b => .incB
  | .c => .incC
  | .d => .incD
  | .e => .incE
  | .h => .incH
  | .l => .incL
  | .memHl => .incMemHl
  | .a => .incA

/-- DEC r by its selection: the row of the table that encodes it (30_encoding.md R81). -/
def Instr.decR (sel : Operand8) : Instr :=
  match sel with
  | .b => .decB
  | .c => .decC
  | .d => .decD
  | .e => .decE
  | .h => .decH
  | .l => .decL
  | .memHl => .decMemHl
  | .a => .decA

/-- AND r by its selection: the row of the table that encodes it (30_encoding.md R81). -/
def Instr.andR (sel : Operand8) : Instr :=
  match sel with
  | .b => .andB
  | .c => .andC
  | .d => .andD
  | .e => .andE
  | .h => .andH
  | .l => .andL
  | .memHl => .andMemHl
  | .a => .andA

/-- XOR r by its selection: the row of the table that encodes it (30_encoding.md R81). -/
def Instr.xorR (sel : Operand8) : Instr :=
  match sel with
  | .b => .xorB
  | .c => .xorC
  | .d => .xorD
  | .e => .xorE
  | .h => .xorH
  | .l => .xorL
  | .memHl => .xorMemHl
  | .a => .xorA

/-- OR r by its selection: the row of the table that encodes it (30_encoding.md R81). -/
def Instr.orR (sel : Operand8) : Instr :=
  match sel with
  | .b => .orB
  | .c => .orC
  | .d => .orD
  | .e => .orE
  | .h => .orH
  | .l => .orL
  | .memHl => .orMemHl
  | .a => .orA

/-- CP r by its selection: the row of the table that encodes it (30_encoding.md R81). -/
def Instr.cpR (sel : Operand8) : Instr :=
  match sel with
  | .b => .cpB
  | .c => .cpC
  | .d => .cpD
  | .e => .cpE
  | .h => .cpH
  | .l => .cpL
  | .memHl => .cpMemHl
  | .a => .cpA

/-- JP cc,nn by its selection: the row of the table that encodes it (30_encoding.md R81). -/
def Instr.jpCc (sel : Cond) (nn : Word) : Instr :=
  match sel with
  | .nz => .jpNzNn nn
  | .z => .jpZNn nn
  | .nc => .jpNcNn nn
  | .c => .jpCNn nn
  | .po => .jpPoNn nn
  | .pe => .jpPeNn nn
  | .p => .jpPNn nn
  | .m => .jpMNn nn

/-- JR cc,d by its selection: the row of the table that encodes it (30_encoding.md R81). -/
def Instr.jrCc (sel : RelCond) (d : Byte) : Instr :=
  match sel with
  | .nz => .jrNzD d
  | .z => .jrZD d
  | .nc => .jrNcD d
  | .c => .jrCD d

/-- LD rp,nn by its selection: the row of the table that encodes it (30_encoding.md R82). -/
def Instr.ldRpNn (sel : Pair) (nn : Word) : Instr :=
  match sel with
  | .bc => .ldBcNn nn
  | .de => .ldDeNn nn
  | .hl => .ldHlNn nn
  | .sp => .ldSpNn nn

/-- ADD HL,rp by its selection: the row of the table that encodes it (30_encoding.md R82). -/
def Instr.addHlRp (sel : Pair) : Instr :=
  match sel with
  | .bc => .addHlBc
  | .de => .addHlDe
  | .hl => .addHlHl
  | .sp => .addHlSp

/-- INC rp by its selection: the row of the table that encodes it (30_encoding.md R82). -/
def Instr.incRp (sel : Pair) : Instr :=
  match sel with
  | .bc => .incBc
  | .de => .incDe
  | .hl => .incHl
  | .sp => .incSp

/-- DEC rp by its selection: the row of the table that encodes it (30_encoding.md R82). -/
def Instr.decRp (sel : Pair) : Instr :=
  match sel with
  | .bc => .decBc
  | .de => .decDe
  | .hl => .decHl
  | .sp => .decSp

/-- LD r,n by its selection: the row of the table that encodes it (30_encoding.md R82). -/
def Instr.ldRN (sel : Operand8) (n : Byte) : Instr :=
  match sel with
  | .b => .ldBN n
  | .c => .ldCN n
  | .d => .ldDN n
  | .e => .ldEN n
  | .h => .ldHN n
  | .l => .ldLN n
  | .memHl => .ldMemHlN n
  | .a => .ldAN n

/-- ADD A,r by its selection: the row of the table that encodes it (30_encoding.md R82). -/
def Instr.addAR (sel : Operand8) : Instr :=
  match sel with
  | .b => .addAB
  | .c => .addAC
  | .d => .addAD
  | .e => .addAE
  | .h => .addAH
  | .l => .addAL
  | .memHl => .addAMemHl
  | .a => .addAA

/-- ADC A,r by its selection: the row of the table that encodes it (30_encoding.md R82). -/
def Instr.adcAR (sel : Operand8) : Instr :=
  match sel with
  | .b => .adcAB
  | .c => .adcAC
  | .d => .adcAD
  | .e => .adcAE
  | .h => .adcAH
  | .l => .adcAL
  | .memHl => .adcAMemHl
  | .a => .adcAA

/-- SUB r by its selection: the row of the table that encodes it (30_encoding.md R82). -/
def Instr.subR (sel : Operand8) : Instr :=
  match sel with
  | .b => .subB
  | .c => .subC
  | .d => .subD
  | .e => .subE
  | .h => .subH
  | .l => .subL
  | .memHl => .subMemHl
  | .a => .subA

/-- SBC A,r by its selection: the row of the table that encodes it (30_encoding.md R82). -/
def Instr.sbcAR (sel : Operand8) : Instr :=
  match sel with
  | .b => .sbcAB
  | .c => .sbcAC
  | .d => .sbcAD
  | .e => .sbcAE
  | .h => .sbcAH
  | .l => .sbcAL
  | .memHl => .sbcAMemHl
  | .a => .sbcAA

/-- RET cc by its selection: the row of the table that encodes it (30_encoding.md R82). -/
def Instr.retCc (sel : Cond) : Instr :=
  match sel with
  | .nz => .retNz
  | .z => .retZ
  | .nc => .retNc
  | .c => .retC
  | .po => .retPo
  | .pe => .retPe
  | .p => .retP
  | .m => .retM

/-- POP rp2 by its selection: the row of the table that encodes it (30_encoding.md R82). -/
def Instr.popRp2 (sel : Pair2) : Instr :=
  match sel with
  | .bc => .popBc
  | .de => .popDe
  | .hl => .popHl
  | .af => .popAf

/-- CALL cc,nn by its selection: the row of the table that encodes it (30_encoding.md R82). -/
def Instr.callCcNn (sel : Cond) (nn : Word) : Instr :=
  match sel with
  | .nz => .callNzNn nn
  | .z => .callZNn nn
  | .nc => .callNcNn nn
  | .c => .callCNn nn
  | .po => .callPoNn nn
  | .pe => .callPeNn nn
  | .p => .callPNn nn
  | .m => .callMNn nn

/-- PUSH rp2 by its selection: the row of the table that encodes it (30_encoding.md R82). -/
def Instr.pushRp2 (sel : Pair2) : Instr :=
  match sel with
  | .bc => .pushBc
  | .de => .pushDe
  | .hl => .pushHl
  | .af => .pushAf

/-- RST by its field y: the target is 8 * y (30_encoding.md R82). -/
def Instr.rst (y : BitVec 3) : Instr :=
  match y with
  | 0#3 => .rst00
  | 1#3 => .rst08
  | 2#3 => .rst10
  | 3#3 => .rst18
  | 4#3 => .rst20
  | 5#3 => .rst28
  | 6#3 => .rst30
  | 7#3 => .rst38

/-- LD r,r' by its two selections; none for both (HL), whose place is HALT's (30_encoding.md R82). -/
def Instr.ldRR (dst src : Operand8) : Option Instr :=
  match dst, src with
  | .b, .b => some .ldBB
  | .b, .c => some .ldBC
  | .b, .d => some .ldBD
  | .b, .e => some .ldBE
  | .b, .h => some .ldBH
  | .b, .l => some .ldBL
  | .b, .memHl => some .ldBMemHl
  | .b, .a => some .ldBA
  | .c, .b => some .ldCB
  | .c, .c => some .ldCC
  | .c, .d => some .ldCD
  | .c, .e => some .ldCE
  | .c, .h => some .ldCH
  | .c, .l => some .ldCL
  | .c, .memHl => some .ldCMemHl
  | .c, .a => some .ldCA
  | .d, .b => some .ldDB
  | .d, .c => some .ldDC
  | .d, .d => some .ldDD
  | .d, .e => some .ldDE
  | .d, .h => some .ldDH
  | .d, .l => some .ldDL
  | .d, .memHl => some .ldDMemHl
  | .d, .a => some .ldDA
  | .e, .b => some .ldEB
  | .e, .c => some .ldEC
  | .e, .d => some .ldED
  | .e, .e => some .ldEE
  | .e, .h => some .ldEH
  | .e, .l => some .ldEL
  | .e, .memHl => some .ldEMemHl
  | .e, .a => some .ldEA
  | .h, .b => some .ldHB
  | .h, .c => some .ldHC
  | .h, .d => some .ldHD
  | .h, .e => some .ldHE
  | .h, .h => some .ldHH
  | .h, .l => some .ldHL
  | .h, .memHl => some .ldHMemHl
  | .h, .a => some .ldHA
  | .l, .b => some .ldLB
  | .l, .c => some .ldLC
  | .l, .d => some .ldLD
  | .l, .e => some .ldLE
  | .l, .h => some .ldLH
  | .l, .l => some .ldLL
  | .l, .memHl => some .ldLMemHl
  | .l, .a => some .ldLA
  | .memHl, .b => some .ldMemHlB
  | .memHl, .c => some .ldMemHlC
  | .memHl, .d => some .ldMemHlD
  | .memHl, .e => some .ldMemHlE
  | .memHl, .h => some .ldMemHlH
  | .memHl, .l => some .ldMemHlL
  | .memHl, .a => some .ldMemHlA
  | .a, .b => some .ldAB
  | .a, .c => some .ldAC
  | .a, .d => some .ldAD
  | .a, .e => some .ldAE
  | .a, .h => some .ldAH
  | .a, .l => some .ldAL
  | .a, .memHl => some .ldAMemHl
  | .a, .a => some .ldAA
  | .memHl, .memHl => none

/-- A prefixed window: one instruction for each prefix Byte, with the secondary Byte (30_encoding.md R80). -/
def prefixedInstr (win : Window) : Except DecodeError Instr :=
  if win.b0 = 0xCB#8 then .ok (.prefixCb win.b1)
  else if win.b0 = 0xDD#8 then .ok (.prefixDd win.b1)
  else if win.b0 = 0xED#8 then .ok (.prefixEd win.b1)
  else if win.b0 = 0xFD#8 then .ok (.prefixFd win.b1)
  else .error .noMatch

/-- The instruction of a tag with its operands taken from the window (30_encoding.md R71, R78). -/
def assemble (t : Tag) (win : Window) : Except DecodeError Instr :=
  match t with
  | .nop => .ok .nop
  | .exAfAf => .ok .exAfAf
  | .jr => .ok (.jrD (immByte win))
  | .jrCc cc => .ok (.jrCc cc (immByte win))
  | .incR r => .ok (.incR r)
  | .decR r => .ok (.decR r)
  | .rrca => .ok .rrca
  | .andR r => .ok (.andR r)
  | .xorR r => .ok (.xorR r)
  | .orR r => .ok (.orR r)
  | .cpR r => .ok (.cpR r)
  | .jpCc cc => .ok (.jpCc cc (immWord win))
  | .jp => .ok (.jpNn (immWord win))
  | .ret => .ok .ret
  | .call => .ok (.callNn (immWord win))
  | .di => .ok .di
  | .andN => .ok (.andN (immByte win))
  | .xorN => .ok (.xorN (immByte win))
  | .orN => .ok (.orN (immByte win))
  | .cpN => .ok (.cpN (immByte win))
  | .djnzD => .ok (.djnzD (immByte win))
  | .ldRpNn p => .ok (.ldRpNn p (immWord win))
  | .addHlRp p => .ok (.addHlRp p)
  | .ldMemBcA => .ok .ldMemBcA
  | .ldAMemBc => .ok .ldAMemBc
  | .ldMemDeA => .ok .ldMemDeA
  | .ldAMemDe => .ok .ldAMemDe
  | .ldMemNnHl => .ok (.ldMemNnHl (immWord win))
  | .ldHlMemNn => .ok (.ldHlMemNn (immWord win))
  | .ldMemNnA => .ok (.ldMemNnA (immWord win))
  | .ldAMemNn => .ok (.ldAMemNn (immWord win))
  | .incRp p => .ok (.incRp p)
  | .decRp p => .ok (.decRp p)
  | .ldRN r => .ok (.ldRN r (immByte win))
  | .rlca => .ok .rlca
  | .rla => .ok .rla
  | .rra => .ok .rra
  | .daa => .ok .daa
  | .cpl => .ok .cpl
  | .scf => .ok .scf
  | .ccf => .ok .ccf
  | .ldRR dst src =>
    match Instr.ldRR dst src with
    | some i => .ok i
    | none => .error .noMatch
  | .halt => .ok .halt
  | .addAR r => .ok (.addAR r)
  | .adcAR r => .ok (.adcAR r)
  | .subR r => .ok (.subR r)
  | .sbcAR r => .ok (.sbcAR r)
  | .retCc cc => .ok (.retCc cc)
  | .popRp2 p => .ok (.popRp2 p)
  | .exx => .ok .exx
  | .jpMemHl => .ok .jpMemHl
  | .ldSpHl => .ok .ldSpHl
  | .outMemNA => .ok (.outMemNA (immByte win))
  | .inAMemN => .ok (.inAMemN (immByte win))
  | .exMemSpHl => .ok .exMemSpHl
  | .exDeHl => .ok .exDeHl
  | .ei => .ok .ei
  | .callCcNn cc => .ok (.callCcNn cc (immWord win))
  | .pushRp2 p => .ok (.pushRp2 p)
  | .addAN => .ok (.addAN (immByte win))
  | .adcAN => .ok (.adcAN (immByte win))
  | .subN => .ok (.subN (immByte win))
  | .sbcAN => .ok (.sbcAN (immByte win))
  | .rst y => .ok (.rst y)
  | .invalid => prefixedInstr win

/-- The instruction the Decoder reads from a window: `decode`'s tag with its operands. Total; it rejects by name what no row
matches, which no window reaches (30_encoding.md R83). -/
def decodeInstr (win : Window) : Except DecodeError Instr := assemble (decode win).tag win

/-- A window whose first Bytes are the given ones, the rest 0x00. -/
def Window.ofBytes (bs : List Byte) : Window :=
  { b0 := bs.getD 0 0#8, b1 := bs.getD 1 0#8, b2 := bs.getD 2 0#8, b3 := bs.getD 3 0#8 }

/-- The Bytes of a window from its lowest address up. -/
def Window.bytes (win : Window) : List Byte := [win.b0, win.b1, win.b2, win.b3]

/-- Byte k of the low `nbits` bits of w, bit 0 the least significant of the first Byte. -/
def wordByte (nbits w k : Nat) : Byte := BitVec.ofNat 8 (w % 2 ^ nbits / 2 ^ (8 * k))

/-- The window that an instruction numbered as spec/opcode_table.json numbers its bits fills: the first Byte at the lowest
address (30_encoding.md R72), every bit above `nbits` zero. -/
def windowOfTableWord (nbits w : Nat) : Window :=
  { b0 := wordByte nbits w 0, b1 := wordByte nbits w 1, b2 := wordByte nbits w 2, b3 := wordByte nbits w 3 }

/-- The instruction the Decoder reads from a word of the opcode table. -/
def decodeTableWord (nbits w : Nat) : Option Instr :=
  match decodeInstr (windowOfTableWord nbits w) with
  | .ok i => some i
  | .error _ => none

/-- The opcode Byte of each instruction: the rows' `match` value (30_encoding.md R81, R82, R80). -/
def Instr.opcode : Instr → Byte
  | .nop => 0x00#8
  | .ldBcNn _ => 0x01#8
  | .ldMemBcA => 0x02#8
  | .incBc => 0x03#8
  | .incB => 0x04#8
  | .decB => 0x05#8
  | .ldBN _ => 0x06#8
  | .rlca => 0x07#8
  | .exAfAf => 0x08#8
  | .addHlBc => 0x09#8
  | .ldAMemBc => 0x0A#8
  | .decBc => 0x0B#8
  | .incC => 0x0C#8
  | .decC => 0x0D#8
  | .ldCN _ => 0x0E#8
  | .rrca => 0x0F#8
  | .djnzD _ => 0x10#8
  | .ldDeNn _ => 0x11#8
  | .ldMemDeA => 0x12#8
  | .incDe => 0x13#8
  | .incD => 0x14#8
  | .decD => 0x15#8
  | .ldDN _ => 0x16#8
  | .rla => 0x17#8
  | .jrD _ => 0x18#8
  | .addHlDe => 0x19#8
  | .ldAMemDe => 0x1A#8
  | .decDe => 0x1B#8
  | .incE => 0x1C#8
  | .decE => 0x1D#8
  | .ldEN _ => 0x1E#8
  | .rra => 0x1F#8
  | .jrNzD _ => 0x20#8
  | .ldHlNn _ => 0x21#8
  | .ldMemNnHl _ => 0x22#8
  | .incHl => 0x23#8
  | .incH => 0x24#8
  | .decH => 0x25#8
  | .ldHN _ => 0x26#8
  | .daa => 0x27#8
  | .jrZD _ => 0x28#8
  | .addHlHl => 0x29#8
  | .ldHlMemNn _ => 0x2A#8
  | .decHl => 0x2B#8
  | .incL => 0x2C#8
  | .decL => 0x2D#8
  | .ldLN _ => 0x2E#8
  | .cpl => 0x2F#8
  | .jrNcD _ => 0x30#8
  | .ldSpNn _ => 0x31#8
  | .ldMemNnA _ => 0x32#8
  | .incSp => 0x33#8
  | .incMemHl => 0x34#8
  | .decMemHl => 0x35#8
  | .ldMemHlN _ => 0x36#8
  | .scf => 0x37#8
  | .jrCD _ => 0x38#8
  | .addHlSp => 0x39#8
  | .ldAMemNn _ => 0x3A#8
  | .decSp => 0x3B#8
  | .incA => 0x3C#8
  | .decA => 0x3D#8
  | .ldAN _ => 0x3E#8
  | .ccf => 0x3F#8
  | .ldBB => 0x40#8
  | .ldBC => 0x41#8
  | .ldBD => 0x42#8
  | .ldBE => 0x43#8
  | .ldBH => 0x44#8
  | .ldBL => 0x45#8
  | .ldBMemHl => 0x46#8
  | .ldBA => 0x47#8
  | .ldCB => 0x48#8
  | .ldCC => 0x49#8
  | .ldCD => 0x4A#8
  | .ldCE => 0x4B#8
  | .ldCH => 0x4C#8
  | .ldCL => 0x4D#8
  | .ldCMemHl => 0x4E#8
  | .ldCA => 0x4F#8
  | .ldDB => 0x50#8
  | .ldDC => 0x51#8
  | .ldDD => 0x52#8
  | .ldDE => 0x53#8
  | .ldDH => 0x54#8
  | .ldDL => 0x55#8
  | .ldDMemHl => 0x56#8
  | .ldDA => 0x57#8
  | .ldEB => 0x58#8
  | .ldEC => 0x59#8
  | .ldED => 0x5A#8
  | .ldEE => 0x5B#8
  | .ldEH => 0x5C#8
  | .ldEL => 0x5D#8
  | .ldEMemHl => 0x5E#8
  | .ldEA => 0x5F#8
  | .ldHB => 0x60#8
  | .ldHC => 0x61#8
  | .ldHD => 0x62#8
  | .ldHE => 0x63#8
  | .ldHH => 0x64#8
  | .ldHL => 0x65#8
  | .ldHMemHl => 0x66#8
  | .ldHA => 0x67#8
  | .ldLB => 0x68#8
  | .ldLC => 0x69#8
  | .ldLD => 0x6A#8
  | .ldLE => 0x6B#8
  | .ldLH => 0x6C#8
  | .ldLL => 0x6D#8
  | .ldLMemHl => 0x6E#8
  | .ldLA => 0x6F#8
  | .ldMemHlB => 0x70#8
  | .ldMemHlC => 0x71#8
  | .ldMemHlD => 0x72#8
  | .ldMemHlE => 0x73#8
  | .ldMemHlH => 0x74#8
  | .ldMemHlL => 0x75#8
  | .halt => 0x76#8
  | .ldMemHlA => 0x77#8
  | .ldAB => 0x78#8
  | .ldAC => 0x79#8
  | .ldAD => 0x7A#8
  | .ldAE => 0x7B#8
  | .ldAH => 0x7C#8
  | .ldAL => 0x7D#8
  | .ldAMemHl => 0x7E#8
  | .ldAA => 0x7F#8
  | .addAB => 0x80#8
  | .addAC => 0x81#8
  | .addAD => 0x82#8
  | .addAE => 0x83#8
  | .addAH => 0x84#8
  | .addAL => 0x85#8
  | .addAMemHl => 0x86#8
  | .addAA => 0x87#8
  | .adcAB => 0x88#8
  | .adcAC => 0x89#8
  | .adcAD => 0x8A#8
  | .adcAE => 0x8B#8
  | .adcAH => 0x8C#8
  | .adcAL => 0x8D#8
  | .adcAMemHl => 0x8E#8
  | .adcAA => 0x8F#8
  | .subB => 0x90#8
  | .subC => 0x91#8
  | .subD => 0x92#8
  | .subE => 0x93#8
  | .subH => 0x94#8
  | .subL => 0x95#8
  | .subMemHl => 0x96#8
  | .subA => 0x97#8
  | .sbcAB => 0x98#8
  | .sbcAC => 0x99#8
  | .sbcAD => 0x9A#8
  | .sbcAE => 0x9B#8
  | .sbcAH => 0x9C#8
  | .sbcAL => 0x9D#8
  | .sbcAMemHl => 0x9E#8
  | .sbcAA => 0x9F#8
  | .andB => 0xA0#8
  | .andC => 0xA1#8
  | .andD => 0xA2#8
  | .andE => 0xA3#8
  | .andH => 0xA4#8
  | .andL => 0xA5#8
  | .andMemHl => 0xA6#8
  | .andA => 0xA7#8
  | .xorB => 0xA8#8
  | .xorC => 0xA9#8
  | .xorD => 0xAA#8
  | .xorE => 0xAB#8
  | .xorH => 0xAC#8
  | .xorL => 0xAD#8
  | .xorMemHl => 0xAE#8
  | .xorA => 0xAF#8
  | .orB => 0xB0#8
  | .orC => 0xB1#8
  | .orD => 0xB2#8
  | .orE => 0xB3#8
  | .orH => 0xB4#8
  | .orL => 0xB5#8
  | .orMemHl => 0xB6#8
  | .orA => 0xB7#8
  | .cpB => 0xB8#8
  | .cpC => 0xB9#8
  | .cpD => 0xBA#8
  | .cpE => 0xBB#8
  | .cpH => 0xBC#8
  | .cpL => 0xBD#8
  | .cpMemHl => 0xBE#8
  | .cpA => 0xBF#8
  | .retNz => 0xC0#8
  | .popBc => 0xC1#8
  | .jpNzNn _ => 0xC2#8
  | .jpNn _ => 0xC3#8
  | .callNzNn _ => 0xC4#8
  | .pushBc => 0xC5#8
  | .addAN _ => 0xC6#8
  | .rst00 => 0xC7#8
  | .retZ => 0xC8#8
  | .ret => 0xC9#8
  | .jpZNn _ => 0xCA#8
  | .prefixCb _ => 0xCB#8
  | .callZNn _ => 0xCC#8
  | .callNn _ => 0xCD#8
  | .adcAN _ => 0xCE#8
  | .rst08 => 0xCF#8
  | .retNc => 0xD0#8
  | .popDe => 0xD1#8
  | .jpNcNn _ => 0xD2#8
  | .outMemNA _ => 0xD3#8
  | .callNcNn _ => 0xD4#8
  | .pushDe => 0xD5#8
  | .subN _ => 0xD6#8
  | .rst10 => 0xD7#8
  | .retC => 0xD8#8
  | .exx => 0xD9#8
  | .jpCNn _ => 0xDA#8
  | .inAMemN _ => 0xDB#8
  | .callCNn _ => 0xDC#8
  | .prefixDd _ => 0xDD#8
  | .sbcAN _ => 0xDE#8
  | .rst18 => 0xDF#8
  | .retPo => 0xE0#8
  | .popHl => 0xE1#8
  | .jpPoNn _ => 0xE2#8
  | .exMemSpHl => 0xE3#8
  | .callPoNn _ => 0xE4#8
  | .pushHl => 0xE5#8
  | .andN _ => 0xE6#8
  | .rst20 => 0xE7#8
  | .retPe => 0xE8#8
  | .jpMemHl => 0xE9#8
  | .jpPeNn _ => 0xEA#8
  | .exDeHl => 0xEB#8
  | .callPeNn _ => 0xEC#8
  | .prefixEd _ => 0xED#8
  | .xorN _ => 0xEE#8
  | .rst28 => 0xEF#8
  | .retP => 0xF0#8
  | .popAf => 0xF1#8
  | .jpPNn _ => 0xF2#8
  | .di => 0xF3#8
  | .callPNn _ => 0xF4#8
  | .pushAf => 0xF5#8
  | .orN _ => 0xF6#8
  | .rst30 => 0xF7#8
  | .retM => 0xF8#8
  | .ldSpHl => 0xF9#8
  | .jpMNn _ => 0xFA#8
  | .ei => 0xFB#8
  | .callMNn _ => 0xFC#8
  | .prefixFd _ => 0xFD#8
  | .cpN _ => 0xFE#8
  | .rst38 => 0xFF#8

/-- The operand Bytes of each instruction, after the opcode Byte: an immediate Word low Byte first (30_encoding.md R72). -/
def Instr.operandBytes : Instr → List Byte
  | .nop => []
  | .ldBcNn nn => [lo8 nn, hi8 nn]
  | .ldMemBcA => []
  | .incBc => []
  | .incB => []
  | .decB => []
  | .ldBN n => [n]
  | .rlca => []
  | .exAfAf => []
  | .addHlBc => []
  | .ldAMemBc => []
  | .decBc => []
  | .incC => []
  | .decC => []
  | .ldCN n => [n]
  | .rrca => []
  | .djnzD d => [d]
  | .ldDeNn nn => [lo8 nn, hi8 nn]
  | .ldMemDeA => []
  | .incDe => []
  | .incD => []
  | .decD => []
  | .ldDN n => [n]
  | .rla => []
  | .jrD d => [d]
  | .addHlDe => []
  | .ldAMemDe => []
  | .decDe => []
  | .incE => []
  | .decE => []
  | .ldEN n => [n]
  | .rra => []
  | .jrNzD d => [d]
  | .ldHlNn nn => [lo8 nn, hi8 nn]
  | .ldMemNnHl nn => [lo8 nn, hi8 nn]
  | .incHl => []
  | .incH => []
  | .decH => []
  | .ldHN n => [n]
  | .daa => []
  | .jrZD d => [d]
  | .addHlHl => []
  | .ldHlMemNn nn => [lo8 nn, hi8 nn]
  | .decHl => []
  | .incL => []
  | .decL => []
  | .ldLN n => [n]
  | .cpl => []
  | .jrNcD d => [d]
  | .ldSpNn nn => [lo8 nn, hi8 nn]
  | .ldMemNnA nn => [lo8 nn, hi8 nn]
  | .incSp => []
  | .incMemHl => []
  | .decMemHl => []
  | .ldMemHlN n => [n]
  | .scf => []
  | .jrCD d => [d]
  | .addHlSp => []
  | .ldAMemNn nn => [lo8 nn, hi8 nn]
  | .decSp => []
  | .incA => []
  | .decA => []
  | .ldAN n => [n]
  | .ccf => []
  | .ldBB => []
  | .ldBC => []
  | .ldBD => []
  | .ldBE => []
  | .ldBH => []
  | .ldBL => []
  | .ldBMemHl => []
  | .ldBA => []
  | .ldCB => []
  | .ldCC => []
  | .ldCD => []
  | .ldCE => []
  | .ldCH => []
  | .ldCL => []
  | .ldCMemHl => []
  | .ldCA => []
  | .ldDB => []
  | .ldDC => []
  | .ldDD => []
  | .ldDE => []
  | .ldDH => []
  | .ldDL => []
  | .ldDMemHl => []
  | .ldDA => []
  | .ldEB => []
  | .ldEC => []
  | .ldED => []
  | .ldEE => []
  | .ldEH => []
  | .ldEL => []
  | .ldEMemHl => []
  | .ldEA => []
  | .ldHB => []
  | .ldHC => []
  | .ldHD => []
  | .ldHE => []
  | .ldHH => []
  | .ldHL => []
  | .ldHMemHl => []
  | .ldHA => []
  | .ldLB => []
  | .ldLC => []
  | .ldLD => []
  | .ldLE => []
  | .ldLH => []
  | .ldLL => []
  | .ldLMemHl => []
  | .ldLA => []
  | .ldMemHlB => []
  | .ldMemHlC => []
  | .ldMemHlD => []
  | .ldMemHlE => []
  | .ldMemHlH => []
  | .ldMemHlL => []
  | .halt => []
  | .ldMemHlA => []
  | .ldAB => []
  | .ldAC => []
  | .ldAD => []
  | .ldAE => []
  | .ldAH => []
  | .ldAL => []
  | .ldAMemHl => []
  | .ldAA => []
  | .addAB => []
  | .addAC => []
  | .addAD => []
  | .addAE => []
  | .addAH => []
  | .addAL => []
  | .addAMemHl => []
  | .addAA => []
  | .adcAB => []
  | .adcAC => []
  | .adcAD => []
  | .adcAE => []
  | .adcAH => []
  | .adcAL => []
  | .adcAMemHl => []
  | .adcAA => []
  | .subB => []
  | .subC => []
  | .subD => []
  | .subE => []
  | .subH => []
  | .subL => []
  | .subMemHl => []
  | .subA => []
  | .sbcAB => []
  | .sbcAC => []
  | .sbcAD => []
  | .sbcAE => []
  | .sbcAH => []
  | .sbcAL => []
  | .sbcAMemHl => []
  | .sbcAA => []
  | .andB => []
  | .andC => []
  | .andD => []
  | .andE => []
  | .andH => []
  | .andL => []
  | .andMemHl => []
  | .andA => []
  | .xorB => []
  | .xorC => []
  | .xorD => []
  | .xorE => []
  | .xorH => []
  | .xorL => []
  | .xorMemHl => []
  | .xorA => []
  | .orB => []
  | .orC => []
  | .orD => []
  | .orE => []
  | .orH => []
  | .orL => []
  | .orMemHl => []
  | .orA => []
  | .cpB => []
  | .cpC => []
  | .cpD => []
  | .cpE => []
  | .cpH => []
  | .cpL => []
  | .cpMemHl => []
  | .cpA => []
  | .retNz => []
  | .popBc => []
  | .jpNzNn nn => [lo8 nn, hi8 nn]
  | .jpNn nn => [lo8 nn, hi8 nn]
  | .callNzNn nn => [lo8 nn, hi8 nn]
  | .pushBc => []
  | .addAN n => [n]
  | .rst00 => []
  | .retZ => []
  | .ret => []
  | .jpZNn nn => [lo8 nn, hi8 nn]
  | .prefixCb second => [second]
  | .callZNn nn => [lo8 nn, hi8 nn]
  | .callNn nn => [lo8 nn, hi8 nn]
  | .adcAN n => [n]
  | .rst08 => []
  | .retNc => []
  | .popDe => []
  | .jpNcNn nn => [lo8 nn, hi8 nn]
  | .outMemNA n => [n]
  | .callNcNn nn => [lo8 nn, hi8 nn]
  | .pushDe => []
  | .subN n => [n]
  | .rst10 => []
  | .retC => []
  | .exx => []
  | .jpCNn nn => [lo8 nn, hi8 nn]
  | .inAMemN n => [n]
  | .callCNn nn => [lo8 nn, hi8 nn]
  | .prefixDd second => [second]
  | .sbcAN n => [n]
  | .rst18 => []
  | .retPo => []
  | .popHl => []
  | .jpPoNn nn => [lo8 nn, hi8 nn]
  | .exMemSpHl => []
  | .callPoNn nn => [lo8 nn, hi8 nn]
  | .pushHl => []
  | .andN n => [n]
  | .rst20 => []
  | .retPe => []
  | .jpMemHl => []
  | .jpPeNn nn => [lo8 nn, hi8 nn]
  | .exDeHl => []
  | .callPeNn nn => [lo8 nn, hi8 nn]
  | .prefixEd second => [second]
  | .xorN n => [n]
  | .rst28 => []
  | .retP => []
  | .popAf => []
  | .jpPNn nn => [lo8 nn, hi8 nn]
  | .di => []
  | .callPNn nn => [lo8 nn, hi8 nn]
  | .pushAf => []
  | .orN n => [n]
  | .rst30 => []
  | .retM => []
  | .ldSpHl => []
  | .jpMNn nn => [lo8 nn, hi8 nn]
  | .ei => []
  | .callMNn nn => [lo8 nn, hi8 nn]
  | .prefixFd second => [second]
  | .cpN n => [n]
  | .rst38 => []

/-- The Bytes of an instruction, from its lowest address up (30_encoding.md R72). A prefix row is two Bytes, the prefix and
the secondary opcode, although the Decoder gives it length 1 (R80). -/
def encode (i : Instr) : List Byte := i.opcode :: i.operandBytes

end Sys2Proof
end

