-- ==== Sys2Proof/Config.lean ====
section
/-! DEFINITION. What the spec makes a model take as an argument or as a draw (00_scope.md R7).
The three parameters are plain data that State holds and nothing writes; the three draws are constants without a body,
so that no proof can know a value of theirs. -/

namespace Sys2Proof

/-- `RESET_PC`, OPEN: the two entry addresses the source names (70_reset_and_hazards.md R192). -/
inductive ResetPc where
  | at0000
  | at0010
  deriving DecidableEq, Repr

/-- The address a `RESET_PC` value names (70_reset_and_hazards.md R192). -/
def ResetPc.address : ResetPc → Word
  | .at0000 => 0x0000#16
  | .at0010 => 0x0010#16

/-- `HALT_PC`: whether a halting step leaves PC or advances it (60_exceptions.md R171). -/
inductive HaltPc where
  | frozen
  | advanced
  deriving DecidableEq, Repr

/-- `WINDOW_TOP`: what a window Byte past 0xFFFF reads (20_memory.md R58). -/
inductive WindowTop where
  | zeroFill
  | wrap
  deriving DecidableEq, Repr

/-- The parameters of one configuration (00_scope.md R7). No step and no host action changes them. -/
structure Params where
  resetPc   : ResetPc
  haltPc    : HaltPc
  windowTop : WindowTop
  deriving DecidableEq, Repr

/-- The spec's decided values `HALT_PC = Frozen` and `WINDOW_TOP = ZeroFill` (00_scope.md R7), with the given `RESET_PC`. -/
def Params.decided (entry : ResetPc) : Params :=
  { resetPc := entry, haltPc := .frozen, windowTop := .zeroFill }

/-- `draw_pv_logic` (40_alu.md R101): F.PV after OR and XOR, one value per draw index. Free: see log 5. -/
opaque Config.drawPvLogic : Nat → Bool

/-- `draw_pv_cp` (40_alu.md R101): F.PV after CP, one value per draw index. Free: see log 5. -/
opaque Config.drawPvCp : Nat → Bool

/-- `draw_h_incdec` (40_alu.md R101): F.H after INC and DEC, one value per draw index. Free: see log 5. -/
opaque Config.drawHIncDec : Nat → Bool

end Sys2Proof
end

