-- ==== Sys2Proof/Machine/State.lean ====
section
/-! DEFINITION. The state of the block (10_state.md R38), its two non-normal outcomes as types, and its values at creation and
after `hardReset()`. State holds what R38 lists, the parameters of 00_scope.md R7 and the model's own draw counter. -/

namespace Sys2Proof.Machine

/-- The flags register F as its eight flag bits (10_state.md R27, R29): sign, zero, undefined bit 5, half-carry, undefined
bit 3, overflow or parity, add/sub, carry. -/
structure Flags where
  s  : Bool
  z  : Bool
  x5 : Bool
  h  : Bool
  x3 : Bool
  pv : Bool
  n  : Bool
  c  : Bool
  deriving DecidableEq, Repr

/-- Every flag false: F = 0x00. -/
def Flags.none : Flags :=
  { s := false, z := false, x5 := false, h := false, x3 := false, pv := false, n := false, c := false }

/-- One set of eight registers: the primary set (10_state.md R20) or the shadow set (R22). -/
structure RegSet where
  a : Byte
  b : Byte
  c : Byte
  d : Byte
  e : Byte
  h : Byte
  l : Byte
  f : Flags
  deriving DecidableEq, Repr

/-- Every register of the set 0x00 (10_state.md R38). -/
def RegSet.zero : RegSet :=
  { a := 0#8, b := 0#8, c := 0#8, d := 0#8, e := 0#8, h := 0#8, l := 0#8, f := Flags.none }

/-- Why a step halted (60_exceptions.md R172). -/
inductive HaltReason where
  /-- A prefixed window: the prefix Byte and the secondary Byte (42_system.md R153). -/
  | invalid (b0 b1 : Byte)
  /-- A recognised opcode outside S: its tag (42_system.md R152). -/
  | unimplemented (tag : Tag)
  deriving DecidableEq, Repr

/-- The Loop's status (10_state.md R37). -/
inductive Status where
  /-- Constructed, `hardReset()` not yet called. -/
  | created
  /-- Between runs, able to step. -/
  | ready
  /-- Inside `run()`. -/
  | running
  /-- The last step returned Halt. -/
  | halted (reason : HaltReason)
  /-- The last `run()` ended on a stop request. -/
  | stopped
  deriving DecidableEq, Repr

/-- The 65536 Bytes of memory (20_memory.md R50) as address and Byte pairs in one canonical form: see `Memory.wf`.
An address that is not listed reads 0x00, the creation value of memory (10_state.md R38). -/
abbrev Memory := List Host.Cell

/-- The canonical form from a lower bound on the next address: addresses rise strictly, none above 0xFFFF, none holds 0x00. -/
def Memory.wfFrom : Nat → Memory → Bool
  | _, [] => true
  | low, cell :: rest =>
    decide (low ≤ cell.1) && decide (cell.1 ≤ 0xFFFF) && cell.2 != 0#8 && Memory.wfFrom (cell.1 + 1) rest

/-- The canonical form of memory: equal memories are equal lists. -/
def Memory.wf (m : Memory) : Bool := Memory.wfFrom 0 m

/-- The state of the block (10_state.md R38). The last two fields are not the spec's state: `params` is the configuration
(00_scope.md R7), which nothing writes, and `drawCount` the model's index of the next draw (log 5). -/
structure State where
  regs      : RegSet
  shadow    : RegSet
  pc        : Word
  sp        : Word
  ix        : Word
  iy        : Word
  i         : Byte
  r         : Byte
  iff       : Bool
  mem       : Memory
  status    : Status
  stopReq   : Bool
  params    : Params
  drawCount : Nat
  deriving DecidableEq, Repr

/-- The faults of the block: none. It raises no trap (60_exceptions.md R170); a Halt is an effect on `status` (R171, R172)
and an out-of-range access reads 0x00 or writes nothing (20_memory.md R51). So no step and no host action faults. -/
inductive Fault where
  deriving DecidableEq, Repr

/-- What the model gives no meaning. -/
inductive Refusal where
  /-- An instruction without a meaning, by its mnemonic. No arm raises it: every instruction has its meaning. Safe. -/
  | notModelled (mnemonic : String)
  /-- A step before `hardReset()`: "not permitted in `Created`, and a model gives them no step there" (60_exceptions.md
  R166; 93_implementation_defined.md I17). Raised by `step`. Safe. -/
  | stepBeforeReset
  /-- A host action that the table of 60_exceptions.md R166 does not list for the status. Raised by `hostAct`. Safe. -/
  | actionNotPermitted
  /-- The host's `step(instr)` with a triple that no window decodes to: a tag of no row, a length or a prefix flag that is
  not the tag's (60_exceptions.md R163 takes "a decoded triple"; log 8). Raised by `hostAct`. Safe. -/
  | tripleNotDecoded
  deriving DecidableEq, Repr

/-- The block as constructed (70_reset_and_hazards.md R190): every element at its creation value (10_state.md R38). -/
def State.created (p : Params) : State :=
  { regs := RegSet.zero, shadow := RegSet.zero, pc := 0#16, sp := 0#16, ix := 0#16, iy := 0#16, i := 0#8, r := 0#8,
    iff := false, mem := [], status := .created, stopReq := false, params := p, drawCount := 0 }

/-- The block constructed and then reset: PC at `RESET_PC`, status Ready, the rest as created (10_state.md R38). -/
def State.resetWith (p : Params) : State :=
  { State.created p with pc := p.resetPc.address, status := .ready }

/-- The machine right after reset, with the decided parameters and `RESET_PC = 0x0000` (log 2). -/
def State.reset : State := State.resetWith (Params.decided .at0000)

end Sys2Proof.Machine
end

