-- ==== Sys2Proof/Machine/Ops.lean ====
section
/-! DEFINITION. The named operations over memory and registers that the meanings share: single-Byte memory access with its
soft failure (20_memory.md R51), the load (R66), register writes, the advance of PC (10_state.md R24), the stack (R54, R55),
call and return (41_control_flow.md R138), draws (00_scope.md R7), and the halt, this block's only exceptional entry
(60_exceptions.md R171). There is no return from a halt (R174). -/

namespace Sys2Proof.Machine

/-- The first listed Byte of an address, 0x00 where none is listed (10_state.md R38). -/
def Memory.lookup : Memory → Nat → Byte
  | [], _ => 0#8
  | cell :: rest, a => if cell.1 = a then cell.2 else Memory.lookup rest a

/-- `MemRead(a, 1)` (20_memory.md R51): an address above 0xFFFF is the soft failure and reads 0x00. -/
def Memory.read (m : Memory) (a : Nat) : Byte :=
  if a ≤ 0xFFFF then Memory.lookup m a else 0#8

/-- Put a cell before the first cell of a higher address. -/
def Memory.insertCell (cell : Host.Cell) : Memory → Memory
  | [] => [cell]
  | first :: rest => if cell.1 < first.1 then cell :: first :: rest else first :: Memory.insertCell cell rest

/-- `MemWrite(a, 1, v)` (20_memory.md R51): an address above 0xFFFF is the soft failure and writes nothing. The canonical
form is kept: a Byte of 0x00 is not listed. -/
def Memory.write (m : Memory) (a : Nat) (v : Byte) : Memory :=
  if a ≤ 0xFFFF then
    if v = 0#8 then m.filter (fun cell => cell.1 != a)
    else Memory.insertCell (a, v) (m.filter (fun cell => cell.1 != a))
  else m

/-- Copy Bytes to rising addresses from `a` (20_memory.md R66). -/
def Memory.writeBytes (m : Memory) (a : Nat) : List Byte → Memory
  | [] => m
  | v :: rest => Memory.writeBytes (m.write a v) (a + 1) rest

/-- The Byte at a Word address. -/
def State.readByte (s : State) (a : Word) : Byte := s.mem.read a.toNat

/-- Store a Byte at a Word address; it changes only that Byte (20_memory.md R59). -/
def State.writeByte (s : State) (a : Word) (v : Byte) : State := { s with mem := s.mem.write a.toNat v }

/-- `pc <- target` (00_scope.md R10). -/
def State.setPc (s : State) (target : Word) : State := { s with pc := target }

/-- `SP <- w`. -/
def State.setSp (s : State) (w : Word) : State := { s with sp := w }

/-- `A <- v`. -/
def State.setA (s : State) (v : Byte) : State := { s with regs := { s.regs with a := v } }

/-- Replace the flag bits of F (10_state.md R29). -/
def State.setFlags (s : State) (f : Flags) : State := { s with regs := { s.regs with f := f } }

/-- `IFF <- b` (10_state.md R34). -/
def State.setIff (s : State) (b : Bool) : State := { s with iff := b }

/-- Set the Loop's status (10_state.md R37). -/
def State.setStatus (s : State) (st : Status) : State := { s with status := st }

/-- `PC <- PC + len` modulo 65536, with which every instruction of S begins (10_state.md R24). -/
def State.advance (s : State) (len : Nat) : State := s.setPc (s.pc + BitVec.ofNat 16 len)

/-- One draw has been taken: the next one has the next index (00_scope.md R7). -/
def State.nextDraw (s : State) : State := { s with drawCount := s.drawCount + 1 }

/-- `push8(v)`: pre-decrement SP, then store (20_memory.md R54). -/
def State.push8 (s : State) (v : Byte) : State := (s.setSp (s.sp - 1#16)).writeByte (s.sp - 1#16) v

/-- The Byte `pop8()` returns (20_memory.md R54). -/
def State.pop8Value (s : State) : Byte := s.readByte s.sp

/-- The state `pop8()` leaves: SP incremented after the read (20_memory.md R54). -/
def State.pop8 (s : State) : State := s.setSp (s.sp + 1#16)

/-- Push a Word, high Byte then low (20_memory.md R55). -/
def State.pushWord (s : State) (w : Word) : State := (s.push8 (hi8 w)).push8 (lo8 w)

/-- The Word a pop returns, low Byte then high (20_memory.md R55). -/
def State.popWordValue (s : State) : Word := joinBytes s.pop8.pop8Value s.pop8Value

/-- The state a Word pop leaves (20_memory.md R55). -/
def State.popWord (s : State) : State := s.pop8.pop8

/-- The register file's `call(addr)`: push PC, then jump (41_control_flow.md R134). -/
def State.call (s : State) (target : Word) : State := (s.pushWord s.pc).setPc target

/-- The register file's `ret()`: pop PC (41_control_flow.md R135). -/
def State.ret (s : State) : State := s.popWord.setPc s.popWordValue

/-- The PC a halting step leaves: unchanged under `HALT_PC = Frozen`, advanced by the decoded length under `Advanced`
(60_exceptions.md R171). -/
def haltPcValue (s : State) (len : Nat) : Word :=
  match s.params.haltPc with
  | .frozen => s.pc
  | .advanced => s.pc + BitVec.ofNat 16 len

/-- `raise Halt(reason)` (60_exceptions.md R171, R172): the status records the reason; apart from PC under
`HALT_PC = Advanced`, nothing else is written. -/
def State.halt (s : State) (reason : HaltReason) (len : Nat) : State :=
  (s.setPc (haltPcValue s len)).setStatus (.halted reason)

/-- A recognised opcode outside S executes nothing and halts (42_system.md R152). -/
def haltUnimplemented (t : Tag) (s : State) : State := s.halt (.unimplemented t) t.len

/-- A prefixed window executes nothing and halts (42_system.md R153); the length of `Invalid` is 1 (30_encoding.md R80). -/
def haltInvalid (b0 b1 : Byte) (s : State) : State := s.halt (.invalid b0 b1) 1

end Sys2Proof.Machine
end

