-- ==== Sys2Proof/Machine/Flags.lean ====
section
/-! DEFINITION. The flag computations: unpack and pack of F (10_state.md R28) and the per-class flag policy
(40_alu.md R101), placeholders included (90_conflicts.md C1). A draw comes in as an argument. None writes X3 or X5 (R30). -/

namespace Sys2Proof.Machine

/-- `fromByte(b)`: unpack, half-carry always false (10_state.md R28). -/
def Flags.fromByte (b : Byte) : Flags :=
  { s := b.getLsbD 7, z := b.getLsbD 6, x5 := b.getLsbD 5, h := false, x3 := b.getLsbD 3, pv := b.getLsbD 2,
    n := b.getLsbD 1, c := b.getLsbD 0 }

/-- `toByte(F)`: pack S7 Z6 X5 H4 X3 PV2 N1 C0 (10_state.md R27, R28). -/
def Flags.toByte (f : Flags) : Byte :=
  BitVec.ofBool f.s ++ BitVec.ofBool f.z ++ BitVec.ofBool f.x5 ++ BitVec.ofBool f.h ++ BitVec.ofBool f.x3
    ++ BitVec.ofBool f.pv ++ BitVec.ofBool f.n ++ BitVec.ofBool f.c

/-- `sign(v) = v[7]` (00_scope.md R11). -/
def signBit (v : Byte) : Bool := v.getLsbD 7

/-- `zero(v) = (v = 0)` (00_scope.md R11). -/
def isZero (v : Byte) : Bool := v == 0#8

/-- `andFlags(res)` (40_alu.md R101). -/
def andFlags (res : Byte) (f : Flags) : Flags :=
  { f with s := signBit res, z := isZero res, h := true, pv := false, n := false, c := false }

/-- `orxorFlags(res)` with `draw_pv_logic` (40_alu.md R101). -/
def orxorFlags (res : Byte) (drawPv : Bool) (f : Flags) : Flags :=
  { f with s := signBit res, z := isZero res, h := false, pv := drawPv, n := false, c := false }

/-- `diff = (a - s) mod 256` (40_alu.md R101). -/
def cpDiff (a v : Byte) : Byte := a - v

/-- `cpFlags(a, s)` with `draw_pv_cp` (40_alu.md R101): half-carry is the placeholder, bit 5 of the difference. -/
def cpFlags (a v : Byte) (drawPv : Bool) (f : Flags) : Flags :=
  { f with s := signBit (cpDiff a v), z := isZero (cpDiff a v), h := (cpDiff a v).getLsbD 5, pv := drawPv, n := true,
           c := BitVec.ult a v }

/-- `incFlags(old, new)` with `draw_h_incdec` (40_alu.md R101): F.C is not written. -/
def incFlags (old new : Byte) (drawH : Bool) (f : Flags) : Flags :=
  { f with s := signBit new, z := isZero new, h := drawH, pv := old == 0x7F#8, n := false }

/-- `decFlags(old, new)` with `draw_h_incdec` (40_alu.md R101): F.C is not written. -/
def decFlags (old new : Byte) (drawH : Bool) (f : Flags) : Flags :=
  { f with s := signBit new, z := isZero new, h := drawH, pv := old == 0x80#8, n := true }

/-- RRCA's flags (40_alu.md R112): C is the bit rotated out; S, Z and PV are not written. -/
def rrcaFlags (carry : Bool) (f : Flags) : Flags := { f with h := false, n := false, c := carry }

end Sys2Proof.Machine
end

