-- ==== Sys2Proof/Machine/Operands.lean ====
section
/-! DEFINITION. The operand forms: the pair HL as an address (10_state.md R21), reading and writing an 8-bit operand
(30_encoding.md R76), and the conditions (R77). -/

namespace Sys2Proof.Machine

/-- `HL = H : L` (10_state.md R21). -/
def State.hl (s : State) : Word := joinBytes s.regs.h s.regs.l

/-- `readR(r)` (30_encoding.md R76): a register, or the Byte at HL. -/
def readR (r : Operand8) (s : State) : Byte :=
  match r with
  | .b => s.regs.b
  | .c => s.regs.c
  | .d => s.regs.d
  | .e => s.regs.e
  | .h => s.regs.h
  | .l => s.regs.l
  | .memHl => s.readByte s.hl
  | .a => s.regs.a

/-- `writeR(r, v)` (30_encoding.md R76): a register, or the Byte at HL. -/
def writeR (r : Operand8) (v : Byte) (s : State) : State :=
  match r with
  | .b => { s with regs := { s.regs with b := v } }
  | .c => { s with regs := { s.regs with c := v } }
  | .d => { s with regs := { s.regs with d := v } }
  | .e => { s with regs := { s.regs with e := v } }
  | .h => { s with regs := { s.regs with h := v } }
  | .l => { s with regs := { s.regs with l := v } }
  | .memHl => s.writeByte s.hl v
  | .a => { s with regs := { s.regs with a := v } }

/-- `cond(c)`: exactly one flag bit against 0 or 1 (30_encoding.md R77, 41_control_flow.md R136). -/
def condHolds (cc : Cond) (f : Flags) : Bool :=
  match cc with
  | .nz => !f.z
  | .z => f.z
  | .nc => !f.c
  | .c => f.c
  | .po => !f.pv
  | .pe => f.pv
  | .p => !f.s
  | .m => f.s

end Sys2Proof.Machine
end

