-- ==== Sys2Proof/Machine/Compare.lean ====
section
/-! DEFINITION. CP with a register, the Byte at HL or an immediate: flags of a difference that is not stored
(40_alu.md R108, R109), with one draw for F.PV. -/

namespace Sys2Proof.Machine

/-- The flags after comparing A with v; A is not written (40_alu.md R108, R109). -/
def compareA (v : Byte) (s : State) : State :=
  (s.setFlags (cpFlags s.regs.a v (Config.drawPvCp s.drawCount) s.regs.f)).nextDraw

/-- CP r: advance, read the operand, compare (40_alu.md R108). -/
def cpReg (r : Operand8) (s : State) : State := compareA (readR r (s.advance 1)) (s.advance 1)

/-- CP B (40_alu.md R108). -/
def execCpB (s : State) : Host.Outcome State Fault Refusal := .next (cpReg .b s)

/-- CP C (40_alu.md R108). -/
def execCpC (s : State) : Host.Outcome State Fault Refusal := .next (cpReg .c s)

/-- CP D (40_alu.md R108). -/
def execCpD (s : State) : Host.Outcome State Fault Refusal := .next (cpReg .d s)

/-- CP E (40_alu.md R108). -/
def execCpE (s : State) : Host.Outcome State Fault Refusal := .next (cpReg .e s)

/-- CP H (40_alu.md R108). -/
def execCpH (s : State) : Host.Outcome State Fault Refusal := .next (cpReg .h s)

/-- CP L (40_alu.md R108). -/
def execCpL (s : State) : Host.Outcome State Fault Refusal := .next (cpReg .l s)

/-- CP (HL) (40_alu.md R108). -/
def execCpMemHl (s : State) : Host.Outcome State Fault Refusal := .next (cpReg .memHl s)

/-- CP A (40_alu.md R108). -/
def execCpA (s : State) : Host.Outcome State Fault Refusal := .next (cpReg .a s)

/-- CP n (40_alu.md R109). -/
def execCpN (n : Byte) (s : State) : Host.Outcome State Fault Refusal := .next (compareA n (s.advance 2))

end Sys2Proof.Machine
end

