-- ==== Sys2Proof/Machine/ControlFlow.lean ====
section
/-! DEFINITION. NOP and the control transfers: JP, JP cc, JR, JR cc, CALL, RET (41_control_flow.md R130 to R137). -/

namespace Sys2Proof.Machine

/-- JP cc,nn: advance by 3; if the condition holds, PC <- nn (41_control_flow.md R132). -/
def jumpIf (cc : Cond) (nn : Word) (s : State) : State :=
  if condHolds cc (s.advance 3).regs.f then (s.advance 3).setPc nn else s.advance 3

/-- PC <- PC + sext_16(d), from the already advanced PC (41_control_flow.md R133). -/
def jumpBy (d : Byte) (s : State) : State := s.setPc (s.pc + sext16 d)

/-- JR cc,d: advance by 2; if the condition holds, jump by d (41_control_flow.md R137). -/
def jumpByIf (cc : RelCond) (d : Byte) (s : State) : State :=
  if condHolds cc.toCond (s.advance 2).regs.f then jumpBy d (s.advance 2) else s.advance 2

/-- NOP (41_control_flow.md R130). -/
def execNop (s : State) : Host.Outcome State Fault Refusal := .next (s.advance 1)

/-- JP nn (41_control_flow.md R131). -/
def execJpNn (nn : Word) (s : State) : Host.Outcome State Fault Refusal := .next ((s.advance 3).setPc nn)

/-- JP NZ,nn (41_control_flow.md R132). -/
def execJpNzNn (nn : Word) (s : State) : Host.Outcome State Fault Refusal := .next (jumpIf .nz nn s)

/-- JP Z,nn (41_control_flow.md R132). -/
def execJpZNn (nn : Word) (s : State) : Host.Outcome State Fault Refusal := .next (jumpIf .z nn s)

/-- JP NC,nn (41_control_flow.md R132). -/
def execJpNcNn (nn : Word) (s : State) : Host.Outcome State Fault Refusal := .next (jumpIf .nc nn s)

/-- JP C,nn (41_control_flow.md R132). -/
def execJpCNn (nn : Word) (s : State) : Host.Outcome State Fault Refusal := .next (jumpIf .c nn s)

/-- JP PO,nn (41_control_flow.md R132). -/
def execJpPoNn (nn : Word) (s : State) : Host.Outcome State Fault Refusal := .next (jumpIf .po nn s)

/-- JP PE,nn (41_control_flow.md R132). -/
def execJpPeNn (nn : Word) (s : State) : Host.Outcome State Fault Refusal := .next (jumpIf .pe nn s)

/-- JP P,nn (41_control_flow.md R132). -/
def execJpPNn (nn : Word) (s : State) : Host.Outcome State Fault Refusal := .next (jumpIf .p nn s)

/-- JP M,nn (41_control_flow.md R132). -/
def execJpMNn (nn : Word) (s : State) : Host.Outcome State Fault Refusal := .next (jumpIf .m nn s)

/-- JR d (41_control_flow.md R133). -/
def execJrD (d : Byte) (s : State) : Host.Outcome State Fault Refusal := .next (jumpBy d (s.advance 2))

/-- JR NZ,d (41_control_flow.md R137). -/
def execJrNzD (d : Byte) (s : State) : Host.Outcome State Fault Refusal := .next (jumpByIf .nz d s)

/-- JR Z,d (41_control_flow.md R137). -/
def execJrZD (d : Byte) (s : State) : Host.Outcome State Fault Refusal := .next (jumpByIf .z d s)

/-- JR NC,d (41_control_flow.md R137). -/
def execJrNcD (d : Byte) (s : State) : Host.Outcome State Fault Refusal := .next (jumpByIf .nc d s)

/-- JR C,d (41_control_flow.md R137). -/
def execJrCD (d : Byte) (s : State) : Host.Outcome State Fault Refusal := .next (jumpByIf .c d s)

/-- CALL nn (41_control_flow.md R134). -/
def execCallNn (nn : Word) (s : State) : Host.Outcome State Fault Refusal := .next ((s.advance 3).call nn)

/-- RET (41_control_flow.md R135). -/
def execRet (s : State) : Host.Outcome State Fault Refusal := .next ((s.advance 1).ret)

end Sys2Proof.Machine
end

