-- ==== Sys2Proof/Machine/IncDec.lean ====
section
/-! DEFINITION. INC and DEC of a register or of the Byte at HL (40_alu.md R110, R111), with one draw for F.H. -/

namespace Sys2Proof.Machine

/-- Write the incremented operand, then its flags, with one draw for F.H (40_alu.md R110). -/
def incrementR (r : Operand8) (s : State) : State :=
  ((writeR r (readR r s + 1#8) s).setFlags
    (incFlags (readR r s) (readR r s + 1#8) (Config.drawHIncDec s.drawCount) s.regs.f)).nextDraw

/-- Write the decremented operand, then its flags, with one draw for F.H (40_alu.md R111). -/
def decrementR (r : Operand8) (s : State) : State :=
  ((writeR r (readR r s - 1#8) s).setFlags
    (decFlags (readR r s) (readR r s - 1#8) (Config.drawHIncDec s.drawCount) s.regs.f)).nextDraw

/-- INC B (40_alu.md R110). -/
def execIncB (s : State) : Host.Outcome State Fault Refusal := .next (incrementR .b (s.advance 1))

/-- INC C (40_alu.md R110). -/
def execIncC (s : State) : Host.Outcome State Fault Refusal := .next (incrementR .c (s.advance 1))

/-- INC D (40_alu.md R110). -/
def execIncD (s : State) : Host.Outcome State Fault Refusal := .next (incrementR .d (s.advance 1))

/-- INC E (40_alu.md R110). -/
def execIncE (s : State) : Host.Outcome State Fault Refusal := .next (incrementR .e (s.advance 1))

/-- INC H (40_alu.md R110). -/
def execIncH (s : State) : Host.Outcome State Fault Refusal := .next (incrementR .h (s.advance 1))

/-- INC L (40_alu.md R110). -/
def execIncL (s : State) : Host.Outcome State Fault Refusal := .next (incrementR .l (s.advance 1))

/-- INC (HL) (40_alu.md R110). -/
def execIncMemHl (s : State) : Host.Outcome State Fault Refusal := .next (incrementR .memHl (s.advance 1))

/-- INC A (40_alu.md R110). -/
def execIncA (s : State) : Host.Outcome State Fault Refusal := .next (incrementR .a (s.advance 1))

/-- DEC B (40_alu.md R111). -/
def execDecB (s : State) : Host.Outcome State Fault Refusal := .next (decrementR .b (s.advance 1))

/-- DEC C (40_alu.md R111). -/
def execDecC (s : State) : Host.Outcome State Fault Refusal := .next (decrementR .c (s.advance 1))

/-- DEC D (40_alu.md R111). -/
def execDecD (s : State) : Host.Outcome State Fault Refusal := .next (decrementR .d (s.advance 1))

/-- DEC E (40_alu.md R111). -/
def execDecE (s : State) : Host.Outcome State Fault Refusal := .next (decrementR .e (s.advance 1))

/-- DEC H (40_alu.md R111). -/
def execDecH (s : State) : Host.Outcome State Fault Refusal := .next (decrementR .h (s.advance 1))

/-- DEC L (40_alu.md R111). -/
def execDecL (s : State) : Host.Outcome State Fault Refusal := .next (decrementR .l (s.advance 1))

/-- DEC (HL) (40_alu.md R111). -/
def execDecMemHl (s : State) : Host.Outcome State Fault Refusal := .next (decrementR .memHl (s.advance 1))

/-- DEC A (40_alu.md R111). -/
def execDecA (s : State) : Host.Outcome State Fault Refusal := .next (decrementR .a (s.advance 1))

end Sys2Proof.Machine
end

