-- ==== Sys2Proof/Machine/Invalid.lean ====
section
/-! DEFINITION. The four prefix rows: every prefixed window executes nothing and halts the run as Invalid with the prefix and
the secondary Byte (30_encoding.md R80, 42_system.md R153). -/

namespace Sys2Proof.Machine

/-- prefix 0xCB (any secondary opcode) (42_system.md R153). -/
def execPrefixCb (second : Byte) (s : State) : Host.Outcome State Fault Refusal := .next (haltInvalid 0xCB#8 second s)

/-- prefix 0xDD (any secondary opcode) (42_system.md R153). -/
def execPrefixDd (second : Byte) (s : State) : Host.Outcome State Fault Refusal := .next (haltInvalid 0xDD#8 second s)

/-- prefix 0xED (any secondary opcode) (42_system.md R153). -/
def execPrefixEd (second : Byte) (s : State) : Host.Outcome State Fault Refusal := .next (haltInvalid 0xED#8 second s)

/-- prefix 0xFD (any secondary opcode) (42_system.md R153). -/
def execPrefixFd (second : Byte) (s : State) : Host.Outcome State Fault Refusal := .next (haltInvalid 0xFD#8 second s)

end Sys2Proof.Machine
end

