-- ==== Sys2Proof/Machine/Logic.lean ====
section
/-! DEFINITION. AND, OR and XOR with a register, the Byte at HL or an immediate (40_alu.md R102 to R107). OR and XOR take one
draw for F.PV. -/

namespace Sys2Proof.Machine

/-- A and its flags after AND with v (40_alu.md R102, R103). -/
def logicAnd (v : Byte) (s : State) : State :=
  (s.setA (s.regs.a &&& v)).setFlags (andFlags (s.regs.a &&& v) s.regs.f)

/-- A and its flags after a result of OR or XOR, with one draw for F.PV (40_alu.md R104 to R107). -/
def logicOrXor (res : Byte) (s : State) : State :=
  ((s.setA res).setFlags (orxorFlags res (Config.drawPvLogic s.drawCount) s.regs.f)).nextDraw

/-- AND r: advance, read the operand, combine (40_alu.md R102). -/
def andReg (r : Operand8) (s : State) : State := logicAnd (readR r (s.advance 1)) (s.advance 1)

/-- XOR r: advance, read the operand, combine (40_alu.md R106). -/
def xorReg (r : Operand8) (s : State) : State :=
  logicOrXor ((s.advance 1).regs.a ^^^ readR r (s.advance 1)) (s.advance 1)

/-- OR r: advance, read the operand, combine (40_alu.md R104). -/
def orReg (r : Operand8) (s : State) : State :=
  logicOrXor ((s.advance 1).regs.a ||| readR r (s.advance 1)) (s.advance 1)

/-- AND B (40_alu.md R102). -/
def execAndB (s : State) : Host.Outcome State Fault Refusal := .next (andReg .b s)

/-- AND C (40_alu.md R102). -/
def execAndC (s : State) : Host.Outcome State Fault Refusal := .next (andReg .c s)

/-- AND D (40_alu.md R102). -/
def execAndD (s : State) : Host.Outcome State Fault Refusal := .next (andReg .d s)

/-- AND E (40_alu.md R102). -/
def execAndE (s : State) : Host.Outcome State Fault Refusal := .next (andReg .e s)

/-- AND H (40_alu.md R102). -/
def execAndH (s : State) : Host.Outcome State Fault Refusal := .next (andReg .h s)

/-- AND L (40_alu.md R102). -/
def execAndL (s : State) : Host.Outcome State Fault Refusal := .next (andReg .l s)

/-- AND (HL) (40_alu.md R102). -/
def execAndMemHl (s : State) : Host.Outcome State Fault Refusal := .next (andReg .memHl s)

/-- AND A (40_alu.md R102). -/
def execAndA (s : State) : Host.Outcome State Fault Refusal := .next (andReg .a s)

/-- XOR B (40_alu.md R106). -/
def execXorB (s : State) : Host.Outcome State Fault Refusal := .next (xorReg .b s)

/-- XOR C (40_alu.md R106). -/
def execXorC (s : State) : Host.Outcome State Fault Refusal := .next (xorReg .c s)

/-- XOR D (40_alu.md R106). -/
def execXorD (s : State) : Host.Outcome State Fault Refusal := .next (xorReg .d s)

/-- XOR E (40_alu.md R106). -/
def execXorE (s : State) : Host.Outcome State Fault Refusal := .next (xorReg .e s)

/-- XOR H (40_alu.md R106). -/
def execXorH (s : State) : Host.Outcome State Fault Refusal := .next (xorReg .h s)

/-- XOR L (40_alu.md R106). -/
def execXorL (s : State) : Host.Outcome State Fault Refusal := .next (xorReg .l s)

/-- XOR (HL) (40_alu.md R106). -/
def execXorMemHl (s : State) : Host.Outcome State Fault Refusal := .next (xorReg .memHl s)

/-- XOR A (40_alu.md R106). -/
def execXorA (s : State) : Host.Outcome State Fault Refusal := .next (xorReg .a s)

/-- OR B (40_alu.md R104). -/
def execOrB (s : State) : Host.Outcome State Fault Refusal := .next (orReg .b s)

/-- OR C (40_alu.md R104). -/
def execOrC (s : State) : Host.Outcome State Fault Refusal := .next (orReg .c s)

/-- OR D (40_alu.md R104). -/
def execOrD (s : State) : Host.Outcome State Fault Refusal := .next (orReg .d s)

/-- OR E (40_alu.md R104). -/
def execOrE (s : State) : Host.Outcome State Fault Refusal := .next (orReg .e s)

/-- OR H (40_alu.md R104). -/
def execOrH (s : State) : Host.Outcome State Fault Refusal := .next (orReg .h s)

/-- OR L (40_alu.md R104). -/
def execOrL (s : State) : Host.Outcome State Fault Refusal := .next (orReg .l s)

/-- OR (HL) (40_alu.md R104). -/
def execOrMemHl (s : State) : Host.Outcome State Fault Refusal := .next (orReg .memHl s)

/-- OR A (40_alu.md R104). -/
def execOrA (s : State) : Host.Outcome State Fault Refusal := .next (orReg .a s)

/-- AND n (40_alu.md R103). -/
def execAndN (n : Byte) (s : State) : Host.Outcome State Fault Refusal :=
  .next (logicAnd n (s.advance 2))

/-- XOR n (40_alu.md R107). -/
def execXorN (n : Byte) (s : State) : Host.Outcome State Fault Refusal :=
  .next (logicOrXor ((s.advance 2).regs.a ^^^ n) (s.advance 2))

/-- OR n (40_alu.md R105). -/
def execOrN (n : Byte) (s : State) : Host.Outcome State Fault Refusal :=
  .next (logicOrXor ((s.advance 2).regs.a ||| n) (s.advance 2))

end Sys2Proof.Machine
end

