-- ==== Sys2Proof/Machine/Rotate.lean ====
section
/-! DEFINITION. RRCA (40_alu.md R112). -/

namespace Sys2Proof.Machine

/-- Rotate A right by one bit: bit 0 goes to bit 7 and to the carry (40_alu.md R112). -/
def rotateRightA (s : State) : State :=
  (s.setA (s.regs.a.rotateRight 1)).setFlags (rrcaFlags (s.regs.a.getLsbD 0) s.regs.f)

/-- RRCA (40_alu.md R112). -/
def execRrca (s : State) : Host.Outcome State Fault Refusal := .next (rotateRightA (s.advance 1))

end Sys2Proof.Machine
end

