-- ==== Sys2Proof/Machine/System.lean ====
section
/-! DEFINITION. DI and EX AF,AF' (42_system.md R150, R151). -/

namespace Sys2Proof.Machine

/-- One atomic exchange of A with A' and F with F', all eight flag bits (42_system.md R151). -/
def exchangeAf (s : State) : State :=
  { s with regs := { s.regs with a := s.shadow.a, f := s.shadow.f },
           shadow := { s.shadow with a := s.regs.a, f := s.regs.f } }

/-- DI (42_system.md R150). -/
def execDi (s : State) : Host.Outcome State Fault Refusal := .next ((s.advance 1).setIff false)

/-- EX AF,AF' (42_system.md R151). -/
def execExAfAf (s : State) : Host.Outcome State Fault Refusal := .next (exchangeAf (s.advance 1))

end Sys2Proof.Machine
end

