-- ==== Sys2Proof/Machine/UnimplementedArith.lean ====
section
/-! DEFINITION. The rows outside S of the quarter x = 2 of the opcode map: ADD, ADC, SUB, SBC (30_encoding.md R82). Each executes nothing and halts the run as
Unimplemented with its tag (42_system.md R152, 60_exceptions.md R171, R172). One definition for each row of the table. -/

namespace Sys2Proof.Machine

/-- ADD A,B (42_system.md R152). -/
def execAddAB (s : State) : Host.Outcome State Fault Refusal := .next (haltUnimplemented (.addAR .b) s)

/-- ADD A,C (42_system.md R152). -/
def execAddAC (s : State) : Host.Outcome State Fault Refusal := .next (haltUnimplemented (.addAR .c) s)

/-- ADD A,D (42_system.md R152). -/
def execAddAD (s : State) : Host.Outcome State Fault Refusal := .next (haltUnimplemented (.addAR .d) s)

/-- ADD A,E (42_system.md R152). -/
def execAddAE (s : State) : Host.Outcome State Fault Refusal := .next (haltUnimplemented (.addAR .e) s)

/-- ADD A,H (42_system.md R152). -/
def execAddAH (s : State) : Host.Outcome State Fault Refusal := .next (haltUnimplemented (.addAR .h) s)

/-- ADD A,L (42_system.md R152). -/
def execAddAL (s : State) : Host.Outcome State Fault Refusal := .next (haltUnimplemented (.addAR .l) s)

/-- ADD A,(HL) (42_system.md R152). -/
def execAddAMemHl (s : State) : Host.Outcome State Fault Refusal := .next (haltUnimplemented (.addAR .memHl) s)

/-- ADD A,A (42_system.md R152). -/
def execAddAA (s : State) : Host.Outcome State Fault Refusal := .next (haltUnimplemented (.addAR .a) s)

/-- ADC A,B (42_system.md R152). -/
def execAdcAB (s : State) : Host.Outcome State Fault Refusal := .next (haltUnimplemented (.adcAR .b) s)

/-- ADC A,C (42_system.md R152). -/
def execAdcAC (s : State) : Host.Outcome State Fault Refusal := .next (haltUnimplemented (.adcAR .c) s)

/-- ADC A,D (42_system.md R152). -/
def execAdcAD (s : State) : Host.Outcome State Fault Refusal := .next (haltUnimplemented (.adcAR .d) s)

/-- ADC A,E (42_system.md R152). -/
def execAdcAE (s : State) : Host.Outcome State Fault Refusal := .next (haltUnimplemented (.adcAR .e) s)

/-- ADC A,H (42_system.md R152). -/
def execAdcAH (s : State) : Host.Outcome State Fault Refusal := .next (haltUnimplemented (.adcAR .h) s)

/-- ADC A,L (42_system.md R152). -/
def execAdcAL (s : State) : Host.Outcome State Fault Refusal := .next (haltUnimplemented (.adcAR .l) s)

/-- ADC A,(HL) (42_system.md R152). -/
def execAdcAMemHl (s : State) : Host.Outcome State Fault Refusal := .next (haltUnimplemented (.adcAR .memHl) s)

/-- ADC A,A (42_system.md R152). -/
def execAdcAA (s : State) : Host.Outcome State Fault Refusal := .next (haltUnimplemented (.adcAR .a) s)

/-- SUB B (42_system.md R152). -/
def execSubB (s : State) : Host.Outcome State Fault Refusal := .next (haltUnimplemented (.subR .b) s)

/-- SUB C (42_system.md R152). -/
def execSubC (s : State) : Host.Outcome State Fault Refusal := .next (haltUnimplemented (.subR .c) s)

/-- SUB D (42_system.md R152). -/
def execSubD (s : State) : Host.Outcome State Fault Refusal := .next (haltUnimplemented (.subR .d) s)

/-- SUB E (42_system.md R152). -/
def execSubE (s : State) : Host.Outcome State Fault Refusal := .next (haltUnimplemented (.subR .e) s)

/-- SUB H (42_system.md R152). -/
def execSubH (s : State) : Host.Outcome State Fault Refusal := .next (haltUnimplemented (.subR .h) s)

/-- SUB L (42_system.md R152). -/
def execSubL (s : State) : Host.Outcome State Fault Refusal := .next (haltUnimplemented (.subR .l) s)

/-- SUB (HL) (42_system.md R152). -/
def execSubMemHl (s : State) : Host.Outcome State Fault Refusal := .next (haltUnimplemented (.subR .memHl) s)

/-- SUB A (42_system.md R152). -/
def execSubA (s : State) : Host.Outcome State Fault Refusal := .next (haltUnimplemented (.subR .a) s)

/-- SBC A,B (42_system.md R152). -/
def execSbcAB (s : State) : Host.Outcome State Fault Refusal := .next (haltUnimplemented (.sbcAR .b) s)

/-- SBC A,C (42_system.md R152). -/
def execSbcAC (s : State) : Host.Outcome State Fault Refusal := .next (haltUnimplemented (.sbcAR .c) s)

/-- SBC A,D (42_system.md R152). -/
def execSbcAD (s : State) : Host.Outcome State Fault Refusal := .next (haltUnimplemented (.sbcAR .d) s)

/-- SBC A,E (42_system.md R152). -/
def execSbcAE (s : State) : Host.Outcome State Fault Refusal := .next (haltUnimplemented (.sbcAR .e) s)

/-- SBC A,H (42_system.md R152). -/
def execSbcAH (s : State) : Host.Outcome State Fault Refusal := .next (haltUnimplemented (.sbcAR .h) s)

/-- SBC A,L (42_system.md R152). -/
def execSbcAL (s : State) : Host.Outcome State Fault Refusal := .next (haltUnimplemented (.sbcAR .l) s)

/-- SBC A,(HL) (42_system.md R152). -/
def execSbcAMemHl (s : State) : Host.Outcome State Fault Refusal := .next (haltUnimplemented (.sbcAR .memHl) s)

/-- SBC A,A (42_system.md R152). -/
def execSbcAA (s : State) : Host.Outcome State Fault Refusal := .next (haltUnimplemented (.sbcAR .a) s)

end Sys2Proof.Machine
end

