-- ==== Sys2Proof/Machine/UnimplementedHigh.lean ====
section
/-! DEFINITION. The rows outside S of the quarter x = 3 of the opcode map (30_encoding.md R82). Each executes nothing and halts the run as
Unimplemented with its tag (42_system.md R152, 60_exceptions.md R171, R172). One definition for each row of the table. -/

namespace Sys2Proof.Machine

/-- RET NZ (42_system.md R152). -/
def execRetNz (s : State) : Host.Outcome State Fault Refusal := .next (haltUnimplemented (.retCc .nz) s)

/-- POP BC (42_system.md R152). -/
def execPopBc (s : State) : Host.Outcome State Fault Refusal := .next (haltUnimplemented (.popRp2 .bc) s)

/-- CALL NZ,nn (42_system.md R152). -/
def execCallNzNn (_nn : Word) (s : State) : Host.Outcome State Fault Refusal := .next (haltUnimplemented (.callCcNn .nz) s)

/-- PUSH BC (42_system.md R152). -/
def execPushBc (s : State) : Host.Outcome State Fault Refusal := .next (haltUnimplemented (.pushRp2 .bc) s)

/-- ADD A,n (42_system.md R152). -/
def execAddAN (_n : Byte) (s : State) : Host.Outcome State Fault Refusal := .next (haltUnimplemented .addAN s)

/-- RST 0x00 (42_system.md R152). -/
def execRst00 (s : State) : Host.Outcome State Fault Refusal := .next (haltUnimplemented (.rst 0#3) s)

/-- RET Z (42_system.md R152). -/
def execRetZ (s : State) : Host.Outcome State Fault Refusal := .next (haltUnimplemented (.retCc .z) s)

/-- CALL Z,nn (42_system.md R152). -/
def execCallZNn (_nn : Word) (s : State) : Host.Outcome State Fault Refusal := .next (haltUnimplemented (.callCcNn .z) s)

/-- ADC A,n (42_system.md R152). -/
def execAdcAN (_n : Byte) (s : State) : Host.Outcome State Fault Refusal := .next (haltUnimplemented .adcAN s)

/-- RST 0x08 (42_system.md R152). -/
def execRst08 (s : State) : Host.Outcome State Fault Refusal := .next (haltUnimplemented (.rst 1#3) s)

/-- RET NC (42_system.md R152). -/
def execRetNc (s : State) : Host.Outcome State Fault Refusal := .next (haltUnimplemented (.retCc .nc) s)

/-- POP DE (42_system.md R152). -/
def execPopDe (s : State) : Host.Outcome State Fault Refusal := .next (haltUnimplemented (.popRp2 .de) s)

/-- OUT (n),A (42_system.md R152). -/
def execOutMemNA (_n : Byte) (s : State) : Host.Outcome State Fault Refusal := .next (haltUnimplemented .outMemNA s)

/-- CALL NC,nn (42_system.md R152). -/
def execCallNcNn (_nn : Word) (s : State) : Host.Outcome State Fault Refusal := .next (haltUnimplemented (.callCcNn .nc) s)

/-- PUSH DE (42_system.md R152). -/
def execPushDe (s : State) : Host.Outcome State Fault Refusal := .next (haltUnimplemented (.pushRp2 .de) s)

/-- SUB n (42_system.md R152). -/
def execSubN (_n : Byte) (s : State) : Host.Outcome State Fault Refusal := .next (haltUnimplemented .subN s)

/-- RST 0x10 (42_system.md R152). -/
def execRst10 (s : State) : Host.Outcome State Fault Refusal := .next (haltUnimplemented (.rst 2#3) s)

/-- RET C (42_system.md R152). -/
def execRetC (s : State) : Host.Outcome State Fault Refusal := .next (haltUnimplemented (.retCc .c) s)

/-- EXX (42_system.md R152). -/
def execExx (s : State) : Host.Outcome State Fault Refusal := .next (haltUnimplemented .exx s)

/-- IN A,(n) (42_system.md R152). -/
def execInAMemN (_n : Byte) (s : State) : Host.Outcome State Fault Refusal := .next (haltUnimplemented .inAMemN s)

/-- CALL C,nn (42_system.md R152). -/
def execCallCNn (_nn : Word) (s : State) : Host.Outcome State Fault Refusal := .next (haltUnimplemented (.callCcNn .c) s)

/-- SBC A,n (42_system.md R152). -/
def execSbcAN (_n : Byte) (s : State) : Host.Outcome State Fault Refusal := .next (haltUnimplemented .sbcAN s)

/-- RST 0x18 (42_system.md R152). -/
def execRst18 (s : State) : Host.Outcome State Fault Refusal := .next (haltUnimplemented (.rst 3#3) s)

/-- RET PO (42_system.md R152). -/
def execRetPo (s : State) : Host.Outcome State Fault Refusal := .next (haltUnimplemented (.retCc .po) s)

/-- POP HL (42_system.md R152). -/
def execPopHl (s : State) : Host.Outcome State Fault Refusal := .next (haltUnimplemented (.popRp2 .hl) s)

/-- EX (SP),HL (42_system.md R152). -/
def execExMemSpHl (s : State) : Host.Outcome State Fault Refusal := .next (haltUnimplemented .exMemSpHl s)

/-- CALL PO,nn (42_system.md R152). -/
def execCallPoNn (_nn : Word) (s : State) : Host.Outcome State Fault Refusal := .next (haltUnimplemented (.callCcNn .po) s)

/-- PUSH HL (42_system.md R152). -/
def execPushHl (s : State) : Host.Outcome State Fault Refusal := .next (haltUnimplemented (.pushRp2 .hl) s)

/-- RST 0x20 (42_system.md R152). -/
def execRst20 (s : State) : Host.Outcome State Fault Refusal := .next (haltUnimplemented (.rst 4#3) s)

/-- RET PE (42_system.md R152). -/
def execRetPe (s : State) : Host.Outcome State Fault Refusal := .next (haltUnimplemented (.retCc .pe) s)

/-- JP (HL) (42_system.md R152). -/
def execJpMemHl (s : State) : Host.Outcome State Fault Refusal := .next (haltUnimplemented .jpMemHl s)

/-- EX DE,HL (42_system.md R152). -/
def execExDeHl (s : State) : Host.Outcome State Fault Refusal := .next (haltUnimplemented .exDeHl s)

/-- CALL PE,nn (42_system.md R152). -/
def execCallPeNn (_nn : Word) (s : State) : Host.Outcome State Fault Refusal := .next (haltUnimplemented (.callCcNn .pe) s)

/-- RST 0x28 (42_system.md R152). -/
def execRst28 (s : State) : Host.Outcome State Fault Refusal := .next (haltUnimplemented (.rst 5#3) s)

/-- RET P (42_system.md R152). -/
def execRetP (s : State) : Host.Outcome State Fault Refusal := .next (haltUnimplemented (.retCc .p) s)

/-- POP AF (42_system.md R152). -/
def execPopAf (s : State) : Host.Outcome State Fault Refusal := .next (haltUnimplemented (.popRp2 .af) s)

/-- CALL P,nn (42_system.md R152). -/
def execCallPNn (_nn : Word) (s : State) : Host.Outcome State Fault Refusal := .next (haltUnimplemented (.callCcNn .p) s)

/-- PUSH AF (42_system.md R152). -/
def execPushAf (s : State) : Host.Outcome State Fault Refusal := .next (haltUnimplemented (.pushRp2 .af) s)

/-- RST 0x30 (42_system.md R152). -/
def execRst30 (s : State) : Host.Outcome State Fault Refusal := .next (haltUnimplemented (.rst 6#3) s)

/-- RET M (42_system.md R152). -/
def execRetM (s : State) : Host.Outcome State Fault Refusal := .next (haltUnimplemented (.retCc .m) s)

/-- LD SP,HL (42_system.md R152). -/
def execLdSpHl (s : State) : Host.Outcome State Fault Refusal := .next (haltUnimplemented .ldSpHl s)

/-- EI (42_system.md R152). -/
def execEi (s : State) : Host.Outcome State Fault Refusal := .next (haltUnimplemented .ei s)

/-- CALL M,nn (42_system.md R152). -/
def execCallMNn (_nn : Word) (s : State) : Host.Outcome State Fault Refusal := .next (haltUnimplemented (.callCcNn .m) s)

/-- RST 0x38 (42_system.md R152). -/
def execRst38 (s : State) : Host.Outcome State Fault Refusal := .next (haltUnimplemented (.rst 7#3) s)

end Sys2Proof.Machine
end

