-- ==== Sys2Proof/Machine/UnimplementedLoads.lean ====
section
/-! DEFINITION. The rows outside S of the quarter x = 1 of the opcode map: LD r,r' and HALT (30_encoding.md R82). Each executes nothing and halts the run as
Unimplemented with its tag (42_system.md R152, 60_exceptions.md R171, R172). One definition for each row of the table. -/

namespace Sys2Proof.Machine

/-- LD B,B (42_system.md R152). -/
def execLdBB (s : State) : Host.Outcome State Fault Refusal := .next (haltUnimplemented (.ldRR .b .b) s)

/-- LD B,C (42_system.md R152). -/
def execLdBC (s : State) : Host.Outcome State Fault Refusal := .next (haltUnimplemented (.ldRR .b .c) s)

/-- LD B,D (42_system.md R152). -/
def execLdBD (s : State) : Host.Outcome State Fault Refusal := .next (haltUnimplemented (.ldRR .b .d) s)

/-- LD B,E (42_system.md R152). -/
def execLdBE (s : State) : Host.Outcome State Fault Refusal := .next (haltUnimplemented (.ldRR .b .e) s)

/-- LD B,H (42_system.md R152). -/
def execLdBH (s : State) : Host.Outcome State Fault Refusal := .next (haltUnimplemented (.ldRR .b .h) s)

/-- LD B,L (42_system.md R152). -/
def execLdBL (s : State) : Host.Outcome State Fault Refusal := .next (haltUnimplemented (.ldRR .b .l) s)

/-- LD B,(HL) (42_system.md R152). -/
def execLdBMemHl (s : State) : Host.Outcome State Fault Refusal := .next (haltUnimplemented (.ldRR .b .memHl) s)

/-- LD B,A (42_system.md R152). -/
def execLdBA (s : State) : Host.Outcome State Fault Refusal := .next (haltUnimplemented (.ldRR .b .a) s)

/-- LD C,B (42_system.md R152). -/
def execLdCB (s : State) : Host.Outcome State Fault Refusal := .next (haltUnimplemented (.ldRR .c .b) s)

/-- LD C,C (42_system.md R152). -/
def execLdCC (s : State) : Host.Outcome State Fault Refusal := .next (haltUnimplemented (.ldRR .c .c) s)

/-- LD C,D (42_system.md R152). -/
def execLdCD (s : State) : Host.Outcome State Fault Refusal := .next (haltUnimplemented (.ldRR .c .d) s)

/-- LD C,E (42_system.md R152). -/
def execLdCE (s : State) : Host.Outcome State Fault Refusal := .next (haltUnimplemented (.ldRR .c .e) s)

/-- LD C,H (42_system.md R152). -/
def execLdCH (s : State) : Host.Outcome State Fault Refusal := .next (haltUnimplemented (.ldRR .c .h) s)

/-- LD C,L (42_system.md R152). -/
def execLdCL (s : State) : Host.Outcome State Fault Refusal := .next (haltUnimplemented (.ldRR .c .l) s)

/-- LD C,(HL) (42_system.md R152). -/
def execLdCMemHl (s : State) : Host.Outcome State Fault Refusal := .next (haltUnimplemented (.ldRR .c .memHl) s)

/-- LD C,A (42_system.md R152). -/
def execLdCA (s : State) : Host.Outcome State Fault Refusal := .next (haltUnimplemented (.ldRR .c .a) s)

/-- LD D,B (42_system.md R152). -/
def execLdDB (s : State) : Host.Outcome State Fault Refusal := .next (haltUnimplemented (.ldRR .d .b) s)

/-- LD D,C (42_system.md R152). -/
def execLdDC (s : State) : Host.Outcome State Fault Refusal := .next (haltUnimplemented (.ldRR .d .c) s)

/-- LD D,D (42_system.md R152). -/
def execLdDD (s : State) : Host.Outcome State Fault Refusal := .next (haltUnimplemented (.ldRR .d .d) s)

/-- LD D,E (42_system.md R152). -/
def execLdDE (s : State) : Host.Outcome State Fault Refusal := .next (haltUnimplemented (.ldRR .d .e) s)

/-- LD D,H (42_system.md R152). -/
def execLdDH (s : State) : Host.Outcome State Fault Refusal := .next (haltUnimplemented (.ldRR .d .h) s)

/-- LD D,L (42_system.md R152). -/
def execLdDL (s : State) : Host.Outcome State Fault Refusal := .next (haltUnimplemented (.ldRR .d .l) s)

/-- LD D,(HL) (42_system.md R152). -/
def execLdDMemHl (s : State) : Host.Outcome State Fault Refusal := .next (haltUnimplemented (.ldRR .d .memHl) s)

/-- LD D,A (42_system.md R152). -/
def execLdDA (s : State) : Host.Outcome State Fault Refusal := .next (haltUnimplemented (.ldRR .d .a) s)

/-- LD E,B (42_system.md R152). -/
def execLdEB (s : State) : Host.Outcome State Fault Refusal := .next (haltUnimplemented (.ldRR .e .b) s)

/-- LD E,C (42_system.md R152). -/
def execLdEC (s : State) : Host.Outcome State Fault Refusal := .next (haltUnimplemented (.ldRR .e .c) s)

/-- LD E,D (42_system.md R152). -/
def execLdED (s : State) : Host.Outcome State Fault Refusal := .next (haltUnimplemented (.ldRR .e .d) s)

/-- LD E,E (42_system.md R152). -/
def execLdEE (s : State) : Host.Outcome State Fault Refusal := .next (haltUnimplemented (.ldRR .e .e) s)

/-- LD E,H (42_system.md R152). -/
def execLdEH (s : State) : Host.Outcome State Fault Refusal := .next (haltUnimplemented (.ldRR .e .h) s)

/-- LD E,L (42_system.md R152). -/
def execLdEL (s : State) : Host.Outcome State Fault Refusal := .next (haltUnimplemented (.ldRR .e .l) s)

/-- LD E,(HL) (42_system.md R152). -/
def execLdEMemHl (s : State) : Host.Outcome State Fault Refusal := .next (haltUnimplemented (.ldRR .e .memHl) s)

/-- LD E,A (42_system.md R152). -/
def execLdEA (s : State) : Host.Outcome State Fault Refusal := .next (haltUnimplemented (.ldRR .e .a) s)

/-- LD H,B (42_system.md R152). -/
def execLdHB (s : State) : Host.Outcome State Fault Refusal := .next (haltUnimplemented (.ldRR .h .b) s)

/-- LD H,C (42_system.md R152). -/
def execLdHC (s : State) : Host.Outcome State Fault Refusal := .next (haltUnimplemented (.ldRR .h .c) s)

/-- LD H,D (42_system.md R152). -/
def execLdHD (s : State) : Host.Outcome State Fault Refusal := .next (haltUnimplemented (.ldRR .h .d) s)

/-- LD H,E (42_system.md R152). -/
def execLdHE (s : State) : Host.Outcome State Fault Refusal := .next (haltUnimplemented (.ldRR .h .e) s)

/-- LD H,H (42_system.md R152). -/
def execLdHH (s : State) : Host.Outcome State Fault Refusal := .next (haltUnimplemented (.ldRR .h .h) s)

/-- LD H,L (42_system.md R152). -/
def execLdHL (s : State) : Host.Outcome State Fault Refusal := .next (haltUnimplemented (.ldRR .h .l) s)

/-- LD H,(HL) (42_system.md R152). -/
def execLdHMemHl (s : State) : Host.Outcome State Fault Refusal := .next (haltUnimplemented (.ldRR .h .memHl) s)

/-- LD H,A (42_system.md R152). -/
def execLdHA (s : State) : Host.Outcome State Fault Refusal := .next (haltUnimplemented (.ldRR .h .a) s)

/-- LD L,B (42_system.md R152). -/
def execLdLB (s : State) : Host.Outcome State Fault Refusal := .next (haltUnimplemented (.ldRR .l .b) s)

/-- LD L,C (42_system.md R152). -/
def execLdLC (s : State) : Host.Outcome State Fault Refusal := .next (haltUnimplemented (.ldRR .l .c) s)

/-- LD L,D (42_system.md R152). -/
def execLdLD (s : State) : Host.Outcome State Fault Refusal := .next (haltUnimplemented (.ldRR .l .d) s)

/-- LD L,E (42_system.md R152). -/
def execLdLE (s : State) : Host.Outcome State Fault Refusal := .next (haltUnimplemented (.ldRR .l .e) s)

/-- LD L,H (42_system.md R152). -/
def execLdLH (s : State) : Host.Outcome State Fault Refusal := .next (haltUnimplemented (.ldRR .l .h) s)

/-- LD L,L (42_system.md R152). -/
def execLdLL (s : State) : Host.Outcome State Fault Refusal := .next (haltUnimplemented (.ldRR .l .l) s)

/-- LD L,(HL) (42_system.md R152). -/
def execLdLMemHl (s : State) : Host.Outcome State Fault Refusal := .next (haltUnimplemented (.ldRR .l .memHl) s)

/-- LD L,A (42_system.md R152). -/
def execLdLA (s : State) : Host.Outcome State Fault Refusal := .next (haltUnimplemented (.ldRR .l .a) s)

/-- LD (HL),B (42_system.md R152). -/
def execLdMemHlB (s : State) : Host.Outcome State Fault Refusal := .next (haltUnimplemented (.ldRR .memHl .b) s)

/-- LD (HL),C (42_system.md R152). -/
def execLdMemHlC (s : State) : Host.Outcome State Fault Refusal := .next (haltUnimplemented (.ldRR .memHl .c) s)

/-- LD (HL),D (42_system.md R152). -/
def execLdMemHlD (s : State) : Host.Outcome State Fault Refusal := .next (haltUnimplemented (.ldRR .memHl .d) s)

/-- LD (HL),E (42_system.md R152). -/
def execLdMemHlE (s : State) : Host.Outcome State Fault Refusal := .next (haltUnimplemented (.ldRR .memHl .e) s)

/-- LD (HL),H (42_system.md R152). -/
def execLdMemHlH (s : State) : Host.Outcome State Fault Refusal := .next (haltUnimplemented (.ldRR .memHl .h) s)

/-- LD (HL),L (42_system.md R152). -/
def execLdMemHlL (s : State) : Host.Outcome State Fault Refusal := .next (haltUnimplemented (.ldRR .memHl .l) s)

/-- HALT (42_system.md R152). -/
def execHalt (s : State) : Host.Outcome State Fault Refusal := .next (haltUnimplemented .halt s)

/-- LD (HL),A (42_system.md R152). -/
def execLdMemHlA (s : State) : Host.Outcome State Fault Refusal := .next (haltUnimplemented (.ldRR .memHl .a) s)

/-- LD A,B (42_system.md R152). -/
def execLdAB (s : State) : Host.Outcome State Fault Refusal := .next (haltUnimplemented (.ldRR .a .b) s)

/-- LD A,C (42_system.md R152). -/
def execLdAC (s : State) : Host.Outcome State Fault Refusal := .next (haltUnimplemented (.ldRR .a .c) s)

/-- LD A,D (42_system.md R152). -/
def execLdAD (s : State) : Host.Outcome State Fault Refusal := .next (haltUnimplemented (.ldRR .a .d) s)

/-- LD A,E (42_system.md R152). -/
def execLdAE (s : State) : Host.Outcome State Fault Refusal := .next (haltUnimplemented (.ldRR .a .e) s)

/-- LD A,H (42_system.md R152). -/
def execLdAH (s : State) : Host.Outcome State Fault Refusal := .next (haltUnimplemented (.ldRR .a .h) s)

/-- LD A,L (42_system.md R152). -/
def execLdAL (s : State) : Host.Outcome State Fault Refusal := .next (haltUnimplemented (.ldRR .a .l) s)

/-- LD A,(HL) (42_system.md R152). -/
def execLdAMemHl (s : State) : Host.Outcome State Fault Refusal := .next (haltUnimplemented (.ldRR .a .memHl) s)

/-- LD A,A (42_system.md R152). -/
def execLdAA (s : State) : Host.Outcome State Fault Refusal := .next (haltUnimplemented (.ldRR .a .a) s)

end Sys2Proof.Machine
end

