-- ==== Sys2Proof/Machine/UnimplementedLow.lean ====
section
/-! DEFINITION. The rows outside S of the quarter x = 0 of the opcode map (30_encoding.md R82). Each executes nothing and halts the run as
Unimplemented with its tag (42_system.md R152, 60_exceptions.md R171, R172). One definition for each row of the table. -/

namespace Sys2Proof.Machine

/-- LD BC,nn (42_system.md R152). -/
def execLdBcNn (_nn : Word) (s : State) : Host.Outcome State Fault Refusal := .next (haltUnimplemented (.ldRpNn .bc) s)

/-- LD (BC),A (42_system.md R152). -/
def execLdMemBcA (s : State) : Host.Outcome State Fault Refusal := .next (haltUnimplemented .ldMemBcA s)

/-- INC BC (42_system.md R152). -/
def execIncBc (s : State) : Host.Outcome State Fault Refusal := .next (haltUnimplemented (.incRp .bc) s)

/-- LD B,n (42_system.md R152). -/
def execLdBN (_n : Byte) (s : State) : Host.Outcome State Fault Refusal := .next (haltUnimplemented (.ldRN .b) s)

/-- RLCA (42_system.md R152). -/
def execRlca (s : State) : Host.Outcome State Fault Refusal := .next (haltUnimplemented .rlca s)

/-- ADD HL,BC (42_system.md R152). -/
def execAddHlBc (s : State) : Host.Outcome State Fault Refusal := .next (haltUnimplemented (.addHlRp .bc) s)

/-- LD A,(BC) (42_system.md R152). -/
def execLdAMemBc (s : State) : Host.Outcome State Fault Refusal := .next (haltUnimplemented .ldAMemBc s)

/-- DEC BC (42_system.md R152). -/
def execDecBc (s : State) : Host.Outcome State Fault Refusal := .next (haltUnimplemented (.decRp .bc) s)

/-- LD C,n (42_system.md R152). -/
def execLdCN (_n : Byte) (s : State) : Host.Outcome State Fault Refusal := .next (haltUnimplemented (.ldRN .c) s)

/-- DJNZ d (42_system.md R152). -/
def execDjnzD (_d : Byte) (s : State) : Host.Outcome State Fault Refusal := .next (haltUnimplemented .djnzD s)

/-- LD DE,nn (42_system.md R152). -/
def execLdDeNn (_nn : Word) (s : State) : Host.Outcome State Fault Refusal := .next (haltUnimplemented (.ldRpNn .de) s)

/-- LD (DE),A (42_system.md R152). -/
def execLdMemDeA (s : State) : Host.Outcome State Fault Refusal := .next (haltUnimplemented .ldMemDeA s)

/-- INC DE (42_system.md R152). -/
def execIncDe (s : State) : Host.Outcome State Fault Refusal := .next (haltUnimplemented (.incRp .de) s)

/-- LD D,n (42_system.md R152). -/
def execLdDN (_n : Byte) (s : State) : Host.Outcome State Fault Refusal := .next (haltUnimplemented (.ldRN .d) s)

/-- RLA (42_system.md R152). -/
def execRla (s : State) : Host.Outcome State Fault Refusal := .next (haltUnimplemented .rla s)

/-- ADD HL,DE (42_system.md R152). -/
def execAddHlDe (s : State) : Host.Outcome State Fault Refusal := .next (haltUnimplemented (.addHlRp .de) s)

/-- LD A,(DE) (42_system.md R152). -/
def execLdAMemDe (s : State) : Host.Outcome State Fault Refusal := .next (haltUnimplemented .ldAMemDe s)

/-- DEC DE (42_system.md R152). -/
def execDecDe (s : State) : Host.Outcome State Fault Refusal := .next (haltUnimplemented (.decRp .de) s)

/-- LD E,n (42_system.md R152). -/
def execLdEN (_n : Byte) (s : State) : Host.Outcome State Fault Refusal := .next (haltUnimplemented (.ldRN .e) s)

/-- RRA (42_system.md R152). -/
def execRra (s : State) : Host.Outcome State Fault Refusal := .next (haltUnimplemented .rra s)

/-- LD HL,nn (42_system.md R152). -/
def execLdHlNn (_nn : Word) (s : State) : Host.Outcome State Fault Refusal := .next (haltUnimplemented (.ldRpNn .hl) s)

/-- LD (nn),HL (42_system.md R152). -/
def execLdMemNnHl (_nn : Word) (s : State) : Host.Outcome State Fault Refusal := .next (haltUnimplemented .ldMemNnHl s)

/-- INC HL (42_system.md R152). -/
def execIncHl (s : State) : Host.Outcome State Fault Refusal := .next (haltUnimplemented (.incRp .hl) s)

/-- LD H,n (42_system.md R152). -/
def execLdHN (_n : Byte) (s : State) : Host.Outcome State Fault Refusal := .next (haltUnimplemented (.ldRN .h) s)

/-- DAA (42_system.md R152). -/
def execDaa (s : State) : Host.Outcome State Fault Refusal := .next (haltUnimplemented .daa s)

/-- ADD HL,HL (42_system.md R152). -/
def execAddHlHl (s : State) : Host.Outcome State Fault Refusal := .next (haltUnimplemented (.addHlRp .hl) s)

/-- LD HL,(nn) (42_system.md R152). -/
def execLdHlMemNn (_nn : Word) (s : State) : Host.Outcome State Fault Refusal := .next (haltUnimplemented .ldHlMemNn s)

/-- DEC HL (42_system.md R152). -/
def execDecHl (s : State) : Host.Outcome State Fault Refusal := .next (haltUnimplemented (.decRp .hl) s)

/-- LD L,n (42_system.md R152). -/
def execLdLN (_n : Byte) (s : State) : Host.Outcome State Fault Refusal := .next (haltUnimplemented (.ldRN .l) s)

/-- CPL (42_system.md R152). -/
def execCpl (s : State) : Host.Outcome State Fault Refusal := .next (haltUnimplemented .cpl s)

/-- LD SP,nn (42_system.md R152). -/
def execLdSpNn (_nn : Word) (s : State) : Host.Outcome State Fault Refusal := .next (haltUnimplemented (.ldRpNn .sp) s)

/-- LD (nn),A (42_system.md R152). -/
def execLdMemNnA (_nn : Word) (s : State) : Host.Outcome State Fault Refusal := .next (haltUnimplemented .ldMemNnA s)

/-- INC SP (42_system.md R152). -/
def execIncSp (s : State) : Host.Outcome State Fault Refusal := .next (haltUnimplemented (.incRp .sp) s)

/-- LD (HL),n (42_system.md R152). -/
def execLdMemHlN (_n : Byte) (s : State) : Host.Outcome State Fault Refusal := .next (haltUnimplemented (.ldRN .memHl) s)

/-- SCF (42_system.md R152). -/
def execScf (s : State) : Host.Outcome State Fault Refusal := .next (haltUnimplemented .scf s)

/-- ADD HL,SP (42_system.md R152). -/
def execAddHlSp (s : State) : Host.Outcome State Fault Refusal := .next (haltUnimplemented (.addHlRp .sp) s)

/-- LD A,(nn) (42_system.md R152). -/
def execLdAMemNn (_nn : Word) (s : State) : Host.Outcome State Fault Refusal := .next (haltUnimplemented .ldAMemNn s)

/-- DEC SP (42_system.md R152). -/
def execDecSp (s : State) : Host.Outcome State Fault Refusal := .next (haltUnimplemented (.decRp .sp) s)

/-- LD A,n (42_system.md R152). -/
def execLdAN (_n : Byte) (s : State) : Host.Outcome State Fault Refusal := .next (haltUnimplemented (.ldRN .a) s)

/-- CCF (42_system.md R152). -/
def execCcf (s : State) : Host.Outcome State Fault Refusal := .next (haltUnimplemented .ccf s)

end Sys2Proof.Machine
end

