-- ==== Sys2Proof/Machine/Loop.lean ====
section
/-! DEFINITION. The Fetch-Execute Loop around the Executor: the window read (20_memory.md R57, R58), one step
(60_exceptions.md R161), the boundary of `run()` (R164), and what status a step starts under (R163, R166). Step.lean only
calls these. -/

namespace Sys2Proof.Machine

/-- The address of window Byte k: `PC + k` not wrapped, or wrapped under `WINDOW_TOP = Wrap` (20_memory.md R58). -/
def windowAddress (s : State) (k : Nat) : Nat :=
  match s.params.windowTop with
  | .zeroFill => s.pc.toNat + k
  | .wrap => (s.pc.toNat + k) % 65536

/-- Window Byte k; above 0xFFFF the read is the soft failure, 0x00 (20_memory.md R51, R58). -/
def windowByte (s : State) (k : Nat) : Byte := s.mem.read (windowAddress s k)

/-- The window of a step, read from the pre-step PC (20_memory.md R57). -/
def fetchWindow (s : State) : Window :=
  { b0 := windowByte s 0, b1 := windowByte s 1, b2 := windowByte s 2, b3 := windowByte s 3 }

/-- One step of the Loop: window, decode, execute (60_exceptions.md R161). The `error` arm is the no-match result
`(Invalid, 1, false)` of 30_encoding.md R74, which no window reaches (R83). -/
def fetchDecodeExecute (s : State) : Host.Outcome State Fault Refusal :=
  match decodeInstr (fetchWindow s) with
  | .ok i => exec i s
  | .error _ => .next (haltInvalid (fetchWindow s).b0 (fetchWindow s).b1 s)

/-- `execute(tag, len, usedPrefix, win, state)` for a triple the host hands in (60_exceptions.md R160, R163): the tag with its
operands from the window, whatever the window's own opcode is. A triple that no window decodes to is no decoded triple and
is refused (log 8). -/
def executeTriple (t : Decoded) (win : Window) (s : State) : Host.Outcome State Fault Refusal :=
  if t.wf then
    if t.tag = .invalid then .next (haltInvalid win.b0 win.b1 s)
    else
      match assemble t.tag win with
      | .ok i => exec i s
      | .error _ => .refused .tripleNotDecoded
  else .refused .tripleNotDecoded

/-- The status under which a step's instruction runs, and which a Continue leaves (60_exceptions.md R166): Running inside
`run()`, Ready for the host's step hook. -/
def continueStatus : Status → Status
  | .running => .running
  | .created | .ready | .halted _ | .stopped => .ready

/-- The step with its status in place: Continue leaves `continueStatus`, Halt(reason) leaves `Halted(reason)`
(60_exceptions.md R163, R164, R166). -/
def stepInstruction (s : State) : Host.Outcome State Fault Refusal :=
  fetchDecodeExecute (s.setStatus (continueStatus s.status))

/-- `run()` meets a stop request at a boundary: it is cleared and the status is Stopped (60_exceptions.md R164). -/
def stopRun (s : State) : State := { s with status := .stopped, stopReq := false }

/-- The host's `step(instr)`: the window at PC, the triple executed, the status as R166 says (60_exceptions.md R163). -/
def stepTriple (t : Decoded) (s : State) : Host.Outcome State Fault Refusal :=
  executeTriple t (fetchWindow s) (s.setStatus (continueStatus s.status))

/-- One move of the block: inside `run()` the boundary's poll and then a step (60_exceptions.md R164); in Ready, Stopped and
Halted the host's step hook with the triple `decode(win)`, which does not poll (R163, R166; log 7); in Created no step
(R166). -/
def loopStep (s : State) : Host.Outcome State Fault Refusal :=
  match s.status with
  | .created => .refused .stepBeforeReset
  | .running => if s.stopReq then .next (stopRun s) else stepInstruction s
  | .ready | .halted _ | .stopped => stepInstruction s

/-- Store the Bytes of a window where the next step reads its window, from Byte 0 on; a Byte whose place is above 0xFFFF is
not stored, as its read would not find it (20_memory.md R51, R58). -/
def placeWindow (s : State) (win : Window) : State :=
  { s with mem := (((s.mem.write (windowAddress s 0) win.b0).write (windowAddress s 1) win.b1).write
      (windowAddress s 2) win.b2).write (windowAddress s 3) win.b3 }

/-- Make the next step one that fetches: a block not yet reset is Ready, and inside `run()` no stop request is pending
(log 19). -/
def armStep (s : State) : State :=
  match s.status with
  | .created => s.setStatus .ready
  | .running => { s with stopReq := false }
  | .ready | .halted _ | .stopped => s

end Sys2Proof.Machine
end

