-- ==== Sys2Proof/Machine/Step.lean ====
section
/-! DEFINITION. The step of the machine and the placing of one instruction where it fetches. Both only call Loop.lean. -/

namespace Sys2Proof.Machine

/-- One move of the block (60_exceptions.md R161, R163, R164, R166). -/
def step (s : State) : Host.Outcome State Fault Refusal := loopStep s

/-- `s` with an instruction stored where `step` fetches its next one, so that the next step runs it (log 19). -/
def State.withFetchWord (s : State) (nbits w : Nat) : State :=
  placeWindow (armStep s) (windowOfTableWord nbits w)

end Sys2Proof.Machine
end

