-- ==== Sys2Proof/Machine/HostPort.lean ====
section
/-! DEFINITION. The host interface (70_reset_and_hazards.md R195): `hardReset()`, the load port, the accessors, `run()`,
`step(instr)` and the stop request, each as an action between steps, permitted by the table of 60_exceptions.md R166. -/

namespace Sys2Proof.Machine

/-- The Byte registers of a set but F (10_state.md R20, R22). -/
inductive SetReg where
  | a
  | b
  | c
  | d
  | e
  | h
  | l
  deriving DecidableEq, Repr

/-- The Byte registers a host names: primary, shadow, I and R (10_state.md R20, R22, R32, R33). -/
inductive ByteReg where
  | primary (x : SetReg)
  | shadow (x : SetReg)
  | i
  | r
  deriving DecidableEq, Repr

/-- The Word registers a host names (10_state.md R24, R25, R26). -/
inductive WordReg where
  | pc
  | sp
  | ix
  | iy
  deriving DecidableEq, Repr

/-- F or F' (10_state.md R20, R22). -/
inductive FlagSlot where
  | primary
  | shadow
  deriving DecidableEq, Repr

/-- The flag bits by name (10_state.md R27). -/
inductive FlagName where
  | s
  | z
  | x5
  | h
  | x3
  | pv
  | n
  | c
  deriving DecidableEq, Repr

/-- What the host can do (70_reset_and_hazards.md R195). Reads are the functions below; they change nothing. -/
inductive HostAction where
  /-- `hardReset()`. -/
  | hardReset
  /-- The load port, with an image. -/
  | load (img : List Byte)
  /-- Write a Byte register. -/
  | writeByteReg (reg : ByteReg) (v : Byte)
  /-- Write a Word register. -/
  | writeWordReg (reg : WordReg) (v : Word)
  /-- Write F or F' as a Byte. -/
  | writeF (slot : FlagSlot) (v : Byte)
  /-- Write one flag bit. -/
  | writeFlag (slot : FlagSlot) (k : FlagName) (b : Bool)
  /-- Write the interrupt-enable latch. -/
  | writeIff (b : Bool)
  /-- Write a Byte of memory; an address above 0xFFFF is the soft failure. -/
  | writeMem (a : Nat) (v : Byte)
  /-- Set `stop_req`. -/
  | requestStop
  /-- Call `run()`. -/
  | run
  /-- Call `step(instr)` with a decoded triple. -/
  | stepInstr (t : Decoded)
  deriving DecidableEq, Repr

/-- `hardReset()` writes PC and status only (70_reset_and_hazards.md R191, R192). -/
def hardReset (s : State) : State := { s with pc := s.params.resetPc.address, status := .ready }

/-- What the load port reports (20_memory.md R65, R66). -/
inductive LoadReply where
  | success
  | failure
  deriving DecidableEq, Repr

/-- The load port's report (20_memory.md R65, R66). -/
def loadReply (img : List Byte) : LoadReply := if imageFits img then .success else .failure

/-- The load port's effect: a longer image is rejected without mutation (20_memory.md R65); otherwise its Bytes go to
addresses 0 .. n-1 and nothing else changes (R66). -/
def loadImage (img : List Byte) (s : State) : State :=
  if imageFits img then { s with mem := s.mem.writeBytes 0 img } else s

/-- Read a register of a set. -/
def RegSet.get (rs : RegSet) : SetReg → Byte
  | .a => rs.a
  | .b => rs.b
  | .c => rs.c
  | .d => rs.d
  | .e => rs.e
  | .h => rs.h
  | .l => rs.l

/-- Write a register of a set. -/
def RegSet.put (rs : RegSet) (x : SetReg) (v : Byte) : RegSet :=
  match x with
  | .a => { rs with a := v }
  | .b => { rs with b := v }
  | .c => { rs with c := v }
  | .d => { rs with d := v }
  | .e => { rs with e := v }
  | .h => { rs with h := v }
  | .l => { rs with l := v }

/-- Read one flag bit (10_state.md R27). -/
def Flags.get (f : Flags) : FlagName → Bool
  | .s => f.s
  | .z => f.z
  | .x5 => f.x5
  | .h => f.h
  | .x3 => f.x3
  | .pv => f.pv
  | .n => f.n
  | .c => f.c

/-- Write one flag bit (10_state.md R27). -/
def Flags.put (f : Flags) (k : FlagName) (b : Bool) : Flags :=
  match k with
  | .s => { f with s := b }
  | .z => { f with z := b }
  | .x5 => { f with x5 := b }
  | .h => { f with h := b }
  | .x3 => { f with x3 := b }
  | .pv => { f with pv := b }
  | .n => { f with n := b }
  | .c => { f with c := b }

/-- The host reads a Byte register. -/
def hostReadByteReg (reg : ByteReg) (s : State) : Byte :=
  match reg with
  | .primary x => s.regs.get x
  | .shadow x => s.shadow.get x
  | .i => s.i
  | .r => s.r

/-- The host writes a Byte register. -/
def hostWriteByteReg (reg : ByteReg) (v : Byte) (s : State) : State :=
  match reg with
  | .primary x => { s with regs := s.regs.put x v }
  | .shadow x => { s with shadow := s.shadow.put x v }
  | .i => { s with i := v }
  | .r => { s with r := v }

/-- The host reads a Word register. -/
def hostReadWordReg (reg : WordReg) (s : State) : Word :=
  match reg with
  | .pc => s.pc
  | .sp => s.sp
  | .ix => s.ix
  | .iy => s.iy

/-- The host writes a Word register. -/
def hostWriteWordReg (reg : WordReg) (v : Word) (s : State) : State :=
  match reg with
  | .pc => { s with pc := v }
  | .sp => { s with sp := v }
  | .ix => { s with ix := v }
  | .iy => { s with iy := v }

/-- The flag bits of F or F'. -/
def flagsOf (slot : FlagSlot) (s : State) : Flags :=
  match slot with
  | .primary => s.regs.f
  | .shadow => s.shadow.f

/-- Replace the flag bits of F or F'. -/
def setFlagsOf (slot : FlagSlot) (f : Flags) (s : State) : State :=
  match slot with
  | .primary => { s with regs := { s.regs with f := f } }
  | .shadow => { s with shadow := { s.shadow with f := f } }

/-- The host reads F as a Byte through `toByte` (10_state.md R29). -/
def hostReadF (slot : FlagSlot) (s : State) : Byte := (flagsOf slot s).toByte

/-- The host writes F as a Byte through `fromByte` (10_state.md R29). -/
def hostWriteF (slot : FlagSlot) (v : Byte) (s : State) : State := setFlagsOf slot (Flags.fromByte v) s

/-- The host reads one flag bit (00_scope.md R2: per-bit accessors). -/
def hostReadFlag (slot : FlagSlot) (k : FlagName) (s : State) : Bool := (flagsOf slot s).get k

/-- The host writes one flag bit (00_scope.md R2: per-bit accessors). -/
def hostWriteFlag (slot : FlagSlot) (k : FlagName) (b : Bool) (s : State) : State :=
  setFlagsOf slot ((flagsOf slot s).put k b) s

/-- The host reads the interrupt-enable latch (10_state.md R34). -/
def hostReadIff (s : State) : Bool := s.iff

/-- The host writes the interrupt-enable latch (10_state.md R34). -/
def hostWriteIff (b : Bool) (s : State) : State := s.setIff b

/-- The host reads a Byte of memory; above 0xFFFF it reads 0x00 (20_memory.md R51). -/
def hostReadMem (a : Nat) (s : State) : Byte := s.mem.read a

/-- The host writes a Byte of memory; above 0xFFFF it writes nothing (20_memory.md R51). -/
def hostWriteMem (a : Nat) (v : Byte) (s : State) : State := { s with mem := s.mem.write a v }

/-- The first address of the video window (20_memory.md R60). -/
def videoBase : Nat := 0xF000

/-- The length of the video window, 52 x 24 Bytes (20_memory.md R60). -/
def videoSize : Nat := 1248

/-- The video window as the presentation layer reads it: ordinary reads of 0xF000 to 0xF4DF (20_memory.md R60). -/
def hostReadVideo (s : State) : List Byte := (List.range videoSize).map (fun k => hostReadMem (videoBase + k) s)

/-- Which actions the table of 60_exceptions.md R166 lists for a status. -/
def permits (st : Status) (act : HostAction) : Bool :=
  match act with
  | .requestStop => true
  | .run | .stepInstr _ =>
    match st with
    | .ready | .stopped | .halted _ => true
    | .created | .running => false
  | .hardReset | .load _ | .writeByteReg _ _ | .writeWordReg _ _ | .writeF _ _ | .writeFlag _ _ _ | .writeIff _
  | .writeMem _ _ =>
    match st with
    | .created | .ready | .stopped | .halted _ => true
    | .running => false

/-- The effect of a permitted action (60_exceptions.md R163 to R166). `run()` enters the Loop, whose boundaries and steps are
then `step`'s; `step(instr)` executes its triple with the operands of the window at PC (R163, log 8). -/
def performAction (act : HostAction) (s : State) : Host.Outcome State Fault Refusal :=
  match act with
  | .hardReset => .next (hardReset s)
  | .load img => .next (loadImage img s)
  | .writeByteReg reg v => .next (hostWriteByteReg reg v s)
  | .writeWordReg reg v => .next (hostWriteWordReg reg v s)
  | .writeF slot v => .next (hostWriteF slot v s)
  | .writeFlag slot k b => .next (hostWriteFlag slot k b s)
  | .writeIff b => .next (hostWriteIff b s)
  | .writeMem a v => .next (hostWriteMem a v s)
  | .requestStop => .next { s with stopReq := true }
  | .run => .next (s.setStatus .running)
  | .stepInstr t => stepTriple t s

/-- One host action (60_exceptions.md R166): an action the table does not list for the status is refused. -/
def hostAct (act : HostAction) (s : State) : Host.Outcome State Fault Refusal :=
  if permits s.status act then performAction act s else .refused .actionNotPermitted

/-- The Loop of `run()` for at most `fuel` boundaries (60_exceptions.md R164): it ends where the status is no longer
Running. -/
def runLoop : Nat → State → Host.Outcome State Fault Refusal
  | 0, s => .next s
  | fuel + 1, s =>
    if s.status = .running then
      match step s with
      | .next t => runLoop fuel t
      | .fault f => .fault f
      | .refused r => .refused r
    else .next s

/-- What can happen at an instruction boundary: the block moves, or the host acts (70_reset_and_hazards.md R195). -/
inductive Event where
  | move
  | host (act : HostAction)
  deriving DecidableEq, Repr

/-- One event. -/
def applyEvent (e : Event) (s : State) : Host.Outcome State Fault Refusal :=
  match e with
  | .move => step s
  | .host act => hostAct act s

/-- A sequence of events, ended by the first that is refused. -/
def applyEvents : List Event → State → Host.Outcome State Fault Refusal
  | [], s => .next s
  | e :: rest, s =>
    match applyEvent e s with
    | .next t => applyEvents rest t
    | .fault f => .fault f
    | .refused r => .refused r

end Sys2Proof.Machine
end

