-- ==== Sys2Proof/Safety.lean ====
section
/-! DEFINITION. The terms the claims use: the invariant of the memory's canonical form, the states in which the block can
move, where an instruction stores, the registers no instruction reaches, and the draw an instruction takes. -/

namespace Sys2Proof.Machine

/-- The invariant that every step and every host action keeps: memory is in its canonical form. -/
abbrev Canonical (s : State) : Prop := s.mem.wf = true

/-- The block can move: `hardReset()` has been called (60_exceptions.md R166). -/
abbrev Operational (s : State) : Prop := s.status ≠ .created

/-- An outcome that goes on. -/
def Continues (o : Host.Outcome State Fault Refusal) : Prop := ∃ t, o = .next t

/-- A function of the state applied to an outcome's next state. -/
def mapNext (f : State → State) (o : Host.Outcome State Fault Refusal) : Host.Outcome State Fault Refusal :=
  match o with
  | .next s => .next (f s)
  | .fault r => .fault r
  | .refused r => .refused r

/-- The same instruction executed `k` times in a row. -/
def repeatExec : Nat → Instr → State → Host.Outcome State Fault Refusal
  | 0, _, s => .next s
  | k + 1, i, s =>
    match exec i s with
    | .next t => repeatExec k i t
    | .fault r => .fault r
    | .refused r => .refused r

/-- The addresses an instruction stores to, in the state it is executed in: HL for INC (HL) and DEC (HL) (40_alu.md R110,
R111), the two stack Bytes for CALL (41_control_flow.md R134), none for any other. -/
def storedAddresses (i : Instr) (s : State) : List Word :=
  if i = .incMemHl ∨ i = .decMemHl then [s.hl]
  else if i.tag = .call then [s.sp - 1#16, s.sp - 1#16 - 1#16]
  else []

/-- The draws an instruction takes: one for OR, XOR, CP, INC and DEC, none for any other (60_exceptions.md R162). -/
def drawsTaken (i : Instr) : Nat :=
  match i.tag with
  | .orR _ | .xorR _ | .orN | .xorN | .cpR _ | .cpN | .incR _ | .decR _ => 1
  | _ => 0

/-- Values for the registers that no instruction reads or writes: IX, IY (10_state.md R26), I (R32), R (R33), and
B', C', D', E', H', L' (R22). -/
structure Unreached where
  ix : Word
  iy : Word
  i  : Byte
  r  : Byte
  b  : Byte
  c  : Byte
  d  : Byte
  e  : Byte
  h  : Byte
  l  : Byte
  deriving DecidableEq, Repr

/-- The state with those registers replaced. -/
def State.withUnreached (s : State) (u : Unreached) : State :=
  { s with ix := u.ix, iy := u.iy, i := u.i, r := u.r,
           shadow := { s.shadow with b := u.b, c := u.c, d := u.d, e := u.e, h := u.h, l := u.l } }

/-- The state with F.H and F.N replaced. -/
def State.withHalfAndSub (s : State) (half sub : Bool) : State :=
  s.setFlags { s.regs.f with h := half, n := sub }

/-- The 8-bit operand an instruction writes, beyond memory, F and the shadow set (10_state.md R35): INC and DEC their operand,
AND, OR, XOR, RRCA and EX AF,AF' the accumulator, any other none. -/
def writtenOperand (i : Instr) : Option Operand8 :=
  match i.tag with
  | .incR r | .decR r => some r
  | .andR _ | .orR _ | .xorR _ | .andN | .orN | .xorN | .rrca | .exAfAf => some .a
  | _ => none

/-- The instruction writes F (10_state.md R35). -/
def writesFlags (i : Instr) : Bool :=
  match i.tag with
  | .andR _ | .orR _ | .xorR _ | .cpR _ | .andN | .orN | .xorN | .cpN | .incR _ | .decR _ | .rrca | .exAfAf => true
  | _ => false

/-- The instruction may leave PC elsewhere than after itself (41_control_flow.md R131 to R137). -/
def transfersControl (i : Instr) : Bool :=
  match i.tag with
  | .jp | .jpCc _ | .jr | .jrCc _ | .call | .ret => true
  | _ => false

/-- The instruction runs to completion as the Executor's Continue: its tag is in S (00_scope.md R3). -/
def inS (i : Instr) : Bool := i.tag.cls == .implemented

end Sys2Proof.Machine
end

