-- ==== Sys2Proof/Certificates/Slice0/Obligations.lean ====
section
/-! DEFINITION. The statements for the provers. Each docstring says the rule or section of spec/ it rests on; where a clause
rests on a decision the spec marks as its own, or on a choice of this model, it names the decision or the log entry. -/

open Sys2Proof Sys2Proof.Machine

/-- Byte 0x00 decodes to NOP, length 1, no prefix; NOP answers the state with PC + 1 and nothing else changed; a run over
memory that was never written executes NOPs. [R130] -/
def Obligations.NopAdvancesPcOnly : Prop :=
  (∀ win : Window, win.b0 = 0b00000000#8 → decodeInstr win = .ok .nop ∧ decode win = ⟨.nop, 1, false⟩) ∧
  (∀ s : State, exec .nop s = .next { s with pc := s.pc + 1#16 }) ∧
  (∀ s : State, s.mem = [] → s.status = .running → s.stopReq = false → step s = .next { s with pc := s.pc + 1#16 })

/-- Byte 0xC3 with lo, hi decodes to JP hi:lo, length 3; JP nn answers the state with PC = nn, whatever PC was, and nothing
else changed. [R131] -/
def Obligations.JpGoesToNn : Prop :=
  (∀ win : Window, win.b0 = 0b11000011#8 →
    decodeInstr win = .ok (.jpNn (win.b2 ++ win.b1)) ∧ decode win = ⟨.jp, 3, false⟩) ∧
  (∀ (nn : Word) (s : State), exec (.jpNn nn) s = .next { s with pc := nn })

/-- Byte 11ccc010 decodes to JP cc,hi:lo, length 3; it answers the state with PC = nn if the condition holds of F and PC + 3
otherwise, and nothing else changed. [R132] -/
def Obligations.JpCcGoesToNnIfConditionHolds : Prop :=
  (∀ (y : BitVec 3) (win : Window), win.b0 = 0b11#2 ++ y ++ 0b010#3 →
    decodeInstr win = .ok (Instr.jpCc (condOf y) (win.b2 ++ win.b1)) ∧ decode win = ⟨.jpCc (condOf y), 3, false⟩) ∧
  (∀ (cc : Cond) (nn : Word) (s : State), exec (Instr.jpCc cc nn) s =
    .next { s with pc := if condHolds cc s.regs.f then nn else s.pc + 3#16 })

/-- Byte 0x18 d decodes to JR d, length 2; it answers the state with PC + 2 + d, d read as two's complement, modulo 65536,
and nothing else changed. [R133] -/
def Obligations.JrGoesBySignedDisplacement : Prop :=
  (∀ win : Window, win.b0 = 0b00011000#8 → decodeInstr win = .ok (.jrD win.b1) ∧ decode win = ⟨.jr, 2, false⟩) ∧
  (∀ (d : Byte) (s : State), exec (.jrD d) s = .next { s with pc := s.pc + 2#16 + BitVec.ofInt 16 d.toInt })

/-- Byte 001cc000 d decodes to JR cc,d with cc by y - 4, length 2; it answers the state with PC + 2 + d if the condition
holds and PC + 2 otherwise, and nothing else changed. [R137] -/
def Obligations.JrCcGoesBySignedDisplacementIfConditionHolds : Prop :=
  (∀ (code : BitVec 2) (win : Window), win.b0 = 0b001#3 ++ code ++ 0b000#3 →
    decodeInstr win = .ok (Instr.jrCc (relCondOf code) win.b1) ∧ decode win = ⟨.jrCc (relCondOf code), 2, false⟩) ∧
  (∀ (cc : RelCond) (d : Byte) (s : State), exec (Instr.jrCc cc d) s =
    .next { s with
      pc := if condHolds cc.toCond s.regs.f then s.pc + 2#16 + BitVec.ofInt 16 d.toInt else s.pc + 2#16 })

/-- Byte 0xCD lo hi decodes to CALL hi:lo, length 3; CALL nn answers a state with PC = nn, SP - 2, the high Byte of PC + 3
at SP - 1 and the low Byte at SP - 2, every other Byte of memory as before, and everything but PC, SP and memory unchanged.
[R134] -/
def Obligations.CallPushesReturnAddressAndJumps : Prop :=
  (∀ win : Window, win.b0 = 0b11001101#8 →
    decodeInstr win = .ok (.callNn (win.b2 ++ win.b1)) ∧ decode win = ⟨.call, 3, false⟩) ∧
  (∀ (nn : Word) (s : State), ∃ t : State, exec (.callNn nn) s = .next t ∧
    t.pc = nn ∧ t.sp = s.sp - 2#16 ∧
    t.readByte (s.sp - 1#16) = BitVec.ofNat 8 ((s.pc + 3#16).toNat / 256) ∧
    t.readByte (s.sp - 2#16) = BitVec.ofNat 8 ((s.pc + 3#16).toNat % 256) ∧
    (∀ a : Word, a ≠ s.sp - 1#16 → a ≠ s.sp - 2#16 → t.readByte a = s.readByte a) ∧
    t = { s with pc := t.pc, sp := t.sp, mem := t.mem })

/-- Byte 0xC9 decodes to RET, length 1; RET answers the state with PC = (Byte at SP + 1) : (Byte at SP) and SP + 2, and
nothing else changed. [R135] -/
def Obligations.RetPopsPc : Prop :=
  (∀ win : Window, win.b0 = 0b11001001#8 → decodeInstr win = .ok .ret ∧ decode win = ⟨.ret, 1, false⟩) ∧
  (∀ s : State, exec .ret s =
    .next { s with pc := s.readByte (s.sp + 1#16) ++ s.readByte s.sp, sp := s.sp + 2#16 })

/-- Byte 0xF3 decodes to DI, length 1; DI answers the state with IFF false and PC + 1, and nothing else changed. [R150] -/
def Obligations.DiClearsLatchOnly : Prop :=
  (∀ win : Window, win.b0 = 0b11110011#8 → decodeInstr win = .ok .di ∧ decode win = ⟨.di, 1, false⟩) ∧
  (∀ s : State, exec .di s = .next { s with pc := s.pc + 1#16, iff := false })

/-- Byte 0x08 decodes to EX AF,AF', length 1; it answers the state with A and A', F and F' exchanged and PC + 1, and nothing
else changed; two in a row restore A, F, A' and F'. [R151] -/
def Obligations.ExchangeSwapsAccumulatorAndFlags : Prop :=
  (∀ win : Window, win.b0 = 0b00001000#8 → decodeInstr win = .ok .exAfAf ∧ decode win = ⟨.exAfAf, 1, false⟩) ∧
  (∀ s : State, exec .exAfAf s = .next { s with
    pc := s.pc + 1#16,
    regs := { s.regs with a := s.shadow.a, f := s.shadow.f },
    shadow := { s.shadow with a := s.regs.a, f := s.regs.f } }) ∧
  (∀ s t u : State, exec .exAfAf s = .next t → exec .exAfAf t = .next u → u.regs = s.regs ∧ u.shadow = s.shadow)

/-- Byte 10100rrr decodes to AND r, length 1; A becomes A AND r, S and Z from the result, H = 1, PV = N = C = 0, X3 and X5
unchanged, PC + 1, and nothing else is changed. [R102] -/
def Obligations.AndRegisterResultAndFlags : Prop :=
  (∀ (z : BitVec 3) (win : Window), win.b0 = 0b10100#5 ++ z →
    decodeInstr win = .ok (Instr.andR (operand8 z)) ∧ decode win = ⟨.andR (operand8 z), 1, false⟩) ∧
  (∀ (r : Operand8) (s : State), exec (Instr.andR r) s =
    .next { s with
      pc := s.pc + 1#16,
      regs := { s.regs with
        a := s.regs.a &&& readR r s,
        f := { s.regs.f with
          s := (s.regs.a &&& readR r s).getLsbD 7, z := decide (s.regs.a &&& readR r s = 0#8), h := true, pv := false, n := false, c := false } } })

/-- Byte 0xE6 n decodes to AND n, length 2; A becomes A AND n, flags as AND r, PC + 2, and nothing else is changed. [R103]
-/
def Obligations.AndImmediateResultAndFlags : Prop :=
  (∀ win : Window, win.b0 = 0b11100110#8 → decodeInstr win = .ok (.andN win.b1) ∧ decode win = ⟨.andN, 2, false⟩) ∧
  (∀ (n : Byte) (s : State), exec (.andN n) s =
    .next { s with
      pc := s.pc + 2#16,
      regs := { s.regs with
        a := s.regs.a &&& n,
        f := { s.regs.f with
          s := (s.regs.a &&& n).getLsbD 7, z := decide (s.regs.a &&& n = 0#8), h := true, pv := false, n := false, c := false } } })

/-- Byte 10110rrr decodes to OR r, length 1; A becomes A OR r, S and Z from the result, H = N = C = 0, PV some value, X3 and
X5 unchanged, PC + 1, and nothing else is changed (but the model's own draw counter, log 5). [R104] -/
def Obligations.OrRegisterResultAndFlags : Prop :=
  (∀ (z : BitVec 3) (win : Window), win.b0 = 0b10110#5 ++ z →
    decodeInstr win = .ok (Instr.orR (operand8 z)) ∧ decode win = ⟨.orR (operand8 z), 1, false⟩) ∧
  (∀ (r : Operand8) (s : State), ∃ (pv : Bool) (k : Nat), exec (Instr.orR r) s =
    .next { s with
      pc := s.pc + 1#16, drawCount := k,
      regs := { s.regs with
        a := s.regs.a ||| readR r s,
        f := { s.regs.f with
          s := (s.regs.a ||| readR r s).getLsbD 7, z := decide (s.regs.a ||| readR r s = 0#8), h := false, pv := pv, n := false, c := false } } })

/-- Byte 0xF6 n decodes to OR n, length 2; A becomes A OR n, flags as OR r, PC + 2, and nothing else is changed (but the
model's own draw counter, log 5). [R105] -/
def Obligations.OrImmediateResultAndFlags : Prop :=
  (∀ win : Window, win.b0 = 0b11110110#8 → decodeInstr win = .ok (.orN win.b1) ∧ decode win = ⟨.orN, 2, false⟩) ∧
  (∀ (n : Byte) (s : State), ∃ (pv : Bool) (k : Nat), exec (.orN n) s =
    .next { s with
      pc := s.pc + 2#16, drawCount := k,
      regs := { s.regs with
        a := s.regs.a ||| n,
        f := { s.regs.f with
          s := (s.regs.a ||| n).getLsbD 7, z := decide (s.regs.a ||| n = 0#8), h := false, pv := pv, n := false, c := false } } })

/-- Byte 10101rrr decodes to XOR r, length 1; A becomes A XOR r, flags as OR r, PC + 1, and nothing else is changed (but the
model's own draw counter, log 5). [R106] -/
def Obligations.XorRegisterResultAndFlags : Prop :=
  (∀ (z : BitVec 3) (win : Window), win.b0 = 0b10101#5 ++ z →
    decodeInstr win = .ok (Instr.xorR (operand8 z)) ∧ decode win = ⟨.xorR (operand8 z), 1, false⟩) ∧
  (∀ (r : Operand8) (s : State), ∃ (pv : Bool) (k : Nat), exec (Instr.xorR r) s =
    .next { s with
      pc := s.pc + 1#16, drawCount := k,
      regs := { s.regs with
        a := s.regs.a ^^^ readR r s,
        f := { s.regs.f with
          s := (s.regs.a ^^^ readR r s).getLsbD 7, z := decide (s.regs.a ^^^ readR r s = 0#8), h := false, pv := pv, n := false, c := false } } })

/-- Byte 0xEE n decodes to XOR n, length 2; A becomes A XOR n, flags as OR r, PC + 2, and nothing else is changed (but the
model's own draw counter, log 5). [R107] -/
def Obligations.XorImmediateResultAndFlags : Prop :=
  (∀ win : Window, win.b0 = 0b11101110#8 → decodeInstr win = .ok (.xorN win.b1) ∧ decode win = ⟨.xorN, 2, false⟩) ∧
  (∀ (n : Byte) (s : State), ∃ (pv : Bool) (k : Nat), exec (.xorN n) s =
    .next { s with
      pc := s.pc + 2#16, drawCount := k,
      regs := { s.regs with
        a := s.regs.a ^^^ n,
        f := { s.regs.f with
          s := (s.regs.a ^^^ n).getLsbD 7, z := decide (s.regs.a ^^^ n = 0#8), h := false, pv := pv, n := false, c := false } } })

/-- Byte 10111rrr decodes to CP r, length 1; with diff = A - r modulo 256, S = diff[7], Z = (diff = 0), H = diff[5], C = A
unsigned below r, N = 1, PV some value, X3 and X5 unchanged, PC + 1, and nothing else is changed (but the model's own draw
counter, log 5). [R108] -/
def Obligations.CompareRegisterFlags : Prop :=
  (∀ (z : BitVec 3) (win : Window), win.b0 = 0b10111#5 ++ z →
    decodeInstr win = .ok (Instr.cpR (operand8 z)) ∧ decode win = ⟨.cpR (operand8 z), 1, false⟩) ∧
  (∀ (r : Operand8) (s : State), ∃ (pv : Bool) (k : Nat), exec (Instr.cpR r) s =
    .next { s with
      pc := s.pc + 1#16, drawCount := k,
      regs := { s.regs with f := { s.regs.f with
        s := (s.regs.a - readR r s).getLsbD 7, z := decide (s.regs.a - readR r s = 0#8), h := (s.regs.a - readR r s).getLsbD 5,
        pv := pv, n := true, c := decide (s.regs.a.toNat < (readR r s).toNat) } } })

/-- Byte 0xFE n decodes to CP n, length 2; the flags are those of A - n as for CP r, PC + 2, and nothing else is changed
(but the model's own draw counter, log 5). [R109] -/
def Obligations.CompareImmediateFlags : Prop :=
  (∀ win : Window, win.b0 = 0b11111110#8 → decodeInstr win = .ok (.cpN win.b1) ∧ decode win = ⟨.cpN, 2, false⟩) ∧
  (∀ (n : Byte) (s : State), ∃ (pv : Bool) (k : Nat), exec (.cpN n) s =
    .next { s with
      pc := s.pc + 2#16, drawCount := k,
      regs := { s.regs with f := { s.regs.f with
        s := (s.regs.a - n).getLsbD 7, z := decide (s.regs.a - n = 0#8), h := (s.regs.a - n).getLsbD 5,
        pv := pv, n := true, c := decide (s.regs.a.toNat < (n).toNat) } } })

/-- Byte 00rrr100 decodes to INC r, length 1; the operand becomes old + 1 modulo 256, S and Z from it, PV = (old = 0x7F), N
= false, H some value, C, X3 and X5 unchanged, PC + 1, and nothing else is changed (but the model's own draw counter, log
5). [R110] -/
def Obligations.IncrementResultAndFlags : Prop :=
  (∀ (y : BitVec 3) (win : Window), win.b0 = 0b00#2 ++ y ++ 0b100#3 →
    decodeInstr win = .ok (Instr.incR (operand8 y)) ∧ decode win = ⟨.incR (operand8 y), 1, false⟩) ∧
  (∀ (r : Operand8) (s : State), ∃ (half : Bool) (k : Nat), exec (Instr.incR r) s =
    .next { writeR r (readR r s + 1#8) s with
      pc := s.pc + 1#16, drawCount := k,
      regs := { (writeR r (readR r s + 1#8) s).regs with f := { s.regs.f with
        s := (readR r s + 1#8).getLsbD 7, z := decide (readR r s + 1#8 = 0#8), h := half, pv := decide (readR r s = 0x7F#8), n := false } } })

/-- Byte 00rrr101 decodes to DEC r, length 1; the operand becomes old - 1 modulo 256, S and Z from it, PV = (old = 0x80), N
= true, H some value, C, X3 and X5 unchanged, PC + 1, and nothing else is changed (but the model's own draw counter, log 5).
[R111] -/
def Obligations.DecrementResultAndFlags : Prop :=
  (∀ (y : BitVec 3) (win : Window), win.b0 = 0b00#2 ++ y ++ 0b101#3 →
    decodeInstr win = .ok (Instr.decR (operand8 y)) ∧ decode win = ⟨.decR (operand8 y), 1, false⟩) ∧
  (∀ (r : Operand8) (s : State), ∃ (half : Bool) (k : Nat), exec (Instr.decR r) s =
    .next { writeR r (readR r s - 1#8) s with
      pc := s.pc + 1#16, drawCount := k,
      regs := { (writeR r (readR r s - 1#8) s).regs with f := { s.regs.f with
        s := (readR r s - 1#8).getLsbD 7, z := decide (readR r s - 1#8 = 0#8), h := half, pv := decide (readR r s = 0x80#8), n := true } } })

/-- Byte 0x0F decodes to RRCA, length 1; A becomes (A >> 1) | (A[0] << 7), C = old A[0], H = N = 0, every other flag
unchanged, PC + 1, nothing else changed; eight in a row restore A. [R112] -/
def Obligations.RrcaRotatesIntoCarry : Prop :=
  (∀ win : Window, win.b0 = 0b00001111#8 → decodeInstr win = .ok .rrca ∧ decode win = ⟨.rrca, 1, false⟩) ∧
  (∀ s : State, exec .rrca s = .next { s with
    pc := s.pc + 1#16,
    regs := { s.regs with
      a := (s.regs.a >>> 1) ||| ((s.regs.a &&& 1#8) <<< 7),
      f := { s.regs.f with c := s.regs.a.getLsbD 0, h := false, n := false } } }) ∧
  (∀ s : State, ∃ t : State, repeatExec 8 .rrca s = .next t ∧ t.regs.a = s.regs.a)

/-- Every instruction whose tag is recognised but outside S (180 rows, HALT among them) answers the state with status
Halted(Unimplemented(tag)); PC stays under HALT_PC = Frozen and is advanced by the length under Advanced; nothing else is
written. The set S, the tags, the frozen PC are decisions D1, D2, D3 of the spec (logs 3, 6, 10). [42_system.md section 3
(Opcodes that do not execute), 60_exceptions.md section 3 (Halt causes)] -/
def Obligations.UnimplementedHaltsWithItsTag : Prop :=
  ∀ (i : Instr) (s : State), i.tag.cls = .unimplemented →
    exec i s = .next { s with
      status := .halted (.unimplemented i.tag),
      pc := match s.params.haltPc with
        | .frozen => s.pc
        | .advanced => s.pc + BitVec.ofNat 16 i.len }

/-- A window that starts with 0xCB, 0xDD, 0xED or 0xFD decodes to (Invalid, 1, true), and its instruction answers the state
with status Halted(Invalid(win[0], win[1])), PC by HALT_PC, nothing else written. Recording both Bytes and the frozen PC are
decisions D18 and D3 of the spec (logs 3, 6, 9). [30_encoding.md section 3 (The tables), 42_system.md section 3 (Opcodes
that do not execute), 60_exceptions.md section 3 (Halt causes)] -/
def Obligations.PrefixedWindowHaltsAsInvalid : Prop :=
  ∀ win : Window, win.b0 = 0xCB#8 ∨ win.b0 = 0xDD#8 ∨ win.b0 = 0xED#8 ∨ win.b0 = 0xFD#8 →
    decode win = ⟨.invalid, 1, true⟩ ∧
    ∃ i : Instr, decodeInstr win = .ok i ∧ encode i = [win.b0, win.b1] ∧
      ∀ s : State, exec i s = .next { s with
        status := .halted (.invalid win.b0 win.b1),
        pc := match s.params.haltPc with
          | .frozen => s.pc
          | .advanced => s.pc + 1#16 }

/-- prefixCb, prefixDd, prefixEd and prefixFd, with any secondary Byte, answer the state with status Halted(Invalid(prefix,
second)), PC by HALT_PC, nothing else written (decisions D3, D18 of the spec, logs 3, 6, 9). [42_system.md section 3
(Opcodes that do not execute), 60_exceptions.md section 3 (Halt causes)] -/
def Obligations.PrefixInstructionsHalt : Prop :=
  ∀ (second : Byte) (s : State),
    let halted := fun (p : Byte) => ({ s with
      status := .halted (.invalid p second),
      pc := match s.params.haltPc with
        | .frozen => s.pc
        | .advanced => s.pc + 1#16 } : State)
    exec (.prefixCb second) s = .next (halted 0xCB#8) ∧ exec (.prefixDd second) s = .next (halted 0xDD#8) ∧
    exec (.prefixEd second) s = .next (halted 0xED#8) ∧ exec (.prefixFd second) s = .next (halted 0xFD#8)

/-- push8(v) leaves SP - 1, v at SP - 1 and every other Byte as before; pop8 returns the Byte at SP and leaves SP + 1 and
nothing else changed; push8 then pop8 returns v and restores SP, for every v and SP, wrapping included. [R54] -/
def Obligations.PushThenPopRestores : Prop :=
  ∀ (v : Byte) (s : State),
    (s.push8 v).sp = s.sp - 1#16 ∧ (s.push8 v).readByte (s.sp - 1#16) = v ∧
    (∀ a : Word, a ≠ s.sp - 1#16 → (s.push8 v).readByte a = s.readByte a) ∧
    s.push8 v = { s with sp := (s.push8 v).sp, mem := (s.push8 v).mem } ∧
    s.pop8Value = s.readByte s.sp ∧ s.pop8 = { s with sp := s.sp + 1#16 } ∧
    (s.push8 v).pop8Value = v ∧ (s.push8 v).pop8.sp = s.sp

/-- The register file's call(addr) followed by ret() leaves PC and SP as before, and the two stack Bytes stay. CALL nn at a,
then RET in any state with the same SP and the same two stack Bytes, leaves PC = a + 3 and SP restored, memory unchanged by
the RET. [41_control_flow.md section 5 (Call and return), 20_memory.md section 3 (The stack)] -/
def Obligations.CallThenRetRestoresPc : Prop :=
  (∀ (s : State) (target : Word),
    (s.call target).ret.pc = s.pc ∧ (s.call target).ret.sp = s.sp ∧ (s.call target).ret.mem = (s.call target).mem) ∧
  (∀ (nn : Word) (s t u : State), exec (.callNn nn) s = .next t → u.sp = t.sp →
    u.readByte t.sp = t.readByte t.sp → u.readByte (t.sp + 1#16) = t.readByte (t.sp + 1#16) →
    exec .ret u = .next { u with pc := s.pc + 3#16, sp := s.sp })

/-- The load port given more than 65536 Bytes reports failure and changes no register and no Byte of memory. [R65] -/
def Obligations.LoadRejectsLongImage : Prop :=
  ∀ (img : List Byte) (s : State), 65536 < img.length →
    loadReply img = .failure ∧ loadImage img s = s ∧ performAction (.load img) s = .next s

/-- For every image of at most 65536 Bytes the port reports success, address k < n reads the image's Byte k, every address
at n and above reads as before, and nothing but memory changes. Leaving Bytes at n and above is decision D21 of the spec
(log 16). [20_memory.md section 8 (The load port)] -/
def Obligations.LoadThenReadReturnsImage : Prop :=
  ∀ (img : List Byte) (s : State), img.length ≤ 65536 →
    loadReply img = .success ∧
    (∀ (k : Nat) (h : k < img.length), hostReadMem k (loadImage img s) = img[k]) ∧
    (∀ a : Nat, img.length ≤ a → hostReadMem a (loadImage img s) = hostReadMem a s) ∧
    loadImage img s = { s with mem := (loadImage img s).mem }

/-- hardReset() leaves PC = RESET_PC (0x0000 or 0x0010) and status Ready and nothing else changed; on the created block it
gives State.resetWith, whose memory reads 0x00 everywhere and whose registers are all zero. The zero registers and that only
PC is written are decisions D5, D6 of the spec; State.reset takes RESET_PC = 0x0000 (logs 1, 2, 18).
[70_reset_and_hazards.md section 1 (Creation and reset), 10_state.md section 6 (The complete state and its values)] -/
def Obligations.HardResetSetsEntryAddress : Prop :=
  (∀ s : State, hardReset s = { s with
    pc := match s.params.resetPc with
      | .at0000 => 0x0000#16
      | .at0010 => 0x0010#16,
    status := .ready }) ∧
  (∀ p : Params, hardReset (State.created p) = State.resetWith p ∧
    (∀ a : Nat, hostReadMem a (State.resetWith p) = 0#8) ∧
    (∀ reg : ByteReg, hostReadByteReg reg (State.resetWith p) = 0#8) ∧
    (∀ slot : FlagSlot, hostReadF slot (State.resetWith p) = 0#8) ∧
    (State.resetWith p).sp = 0#16 ∧ (State.resetWith p).ix = 0#16 ∧ (State.resetWith p).iy = 0#16 ∧
    (State.resetWith p).iff = false ∧ (State.resetWith p).stopReq = false) ∧
  State.reset = State.resetWith ⟨.at0000, .frozen, .zeroFill⟩

/-- For every configuration memory is in its canonical form at creation and after reset, and the block after reset is no
longer Created. The canonical form is the model's own (log 14). [70_reset_and_hazards.md section 1 (Creation and reset),
20_memory.md section 1 (The memory unit)] -/
def Obligations.ResetMeetsInvariant : Prop :=
  (∀ p : Params, Canonical (State.created p) ∧ Canonical (State.resetWith p) ∧ Operational (State.resetWith p)) ∧
  Canonical State.reset ∧ Operational State.reset

/-- From every state whose memory is canonical, every next state of step has canonical memory, is not Created, and has the
same configuration. The canonical form is the model's own (log 14). [20_memory.md section 1 (The memory unit),
60_exceptions.md section 2 (The control FSM)] -/
def Obligations.StepKeepsMemoryCanonicalAndOperational : Prop :=
  ∀ s t : State, Canonical s → step s = .next t → Canonical t ∧ Operational t ∧ t.params = s.params

/-- From every state whose memory is canonical, every host action that is not refused (a load of any image among them)
leaves canonical memory and the same configuration, and never leads back to Created. The canonical form of memory is the
model's own (log 14), and so is the form of host actions, functions applied between steps (log 17). [70_reset_and_hazards.md
section 3 (The host interface), 60_exceptions.md section 2 (The control FSM)] -/
def Obligations.HostActionKeepsInvariant : Prop :=
  ∀ (act : HostAction) (s t : State), Canonical s → hostAct act s = .next t →
    Canonical t ∧ t.params = s.params ∧ (Operational s → Operational t)

/-- From every state whose memory is canonical and every sequence of moves of the block and host actions, the state at the
end has canonical memory and the same configuration, and is not Created if the first was not. The canonical form of memory
is the model's own (log 14), and so are histories, sequences of events in which the host acts between moves (log 17).
[70_reset_and_hazards.md section 3 (The host interface), 60_exceptions.md section 2 (The control FSM), 20_memory.md section
7 (Ordering)] -/
def Obligations.EveryHistoryKeepsInvariant : Prop :=
  ∀ (es : List Event) (s t : State), Canonical s → applyEvents es s = .next t →
    Canonical t ∧ t.params = s.params ∧ (Operational s → Operational t)

/-- For every instruction and every list of following Bytes, the window that holds the instruction's Bytes and those decodes
to the instruction, with its triple. The opcode Bytes outside the five of the source are decision D19 of the spec (log 11).
[30_encoding.md section 2 (Formats and fields), 30_encoding.md section 3 (The tables), 30_encoding.md section 5 (Decode as
pseudocode)] -/
def Obligations.DecodeOfEncodeIsTheInstruction : Prop :=
  ∀ (i : Instr) (rest : List Byte),
    decodeInstr (Window.ofBytes (encode i ++ rest)) = .ok i ∧ decode (Window.ofBytes (encode i ++ rest)) = i.triple

/-- Whatever instruction a window decodes to, encoding it gives back the window's first Bytes: no bit of opcode or operand
is dropped or invented, so no two instructions share a word. [30_encoding.md section 3 (The tables), 30_encoding.md section
5 (Decode as pseudocode)] -/
def Obligations.EncodeOfDecodedIsTheWindow : Prop :=
  ∀ (win : Window) (i : Instr), decodeInstr win = .ok i → encode i <+: win.bytes

/-- Every window decodes to an instruction; the Decoder's triple is the instruction's, is well-formed, and its tag is
Invalid, and its prefix flag true, exactly when the window starts with one of the four prefix Bytes. That no unprefixed Byte
is Invalid is decision D2 of the spec (log 10). [30_encoding.md section 1 (The decoder's interface), 30_encoding.md section
3 (The tables)] -/
def Obligations.DecoderIsCompleteAndConsistent : Prop :=
  ∀ win : Window,
    (∃ i : Instr, decodeInstr win = .ok i ∧ decode win = i.triple) ∧ (decode win).wf = true ∧
    ((decode win).tag = .invalid ↔ win.b0 = 0xCB#8 ∨ win.b0 = 0xDD#8 ∨ win.b0 = 0xED#8 ∨ win.b0 = 0xFD#8) ∧
    ((decode win).usedPrefix = true ↔ win.b0 = 0xCB#8 ∨ win.b0 = 0xDD#8 ∨ win.b0 = 0xED#8 ∨ win.b0 = 0xFD#8)

/-- For every unprefixed instruction the length is the number of its Bytes, 1 to 3; and every instruction of S that
transfers no control leaves PC advanced by exactly the length, modulo 65536. [30_encoding.md section 2 (Formats and fields),
10_state.md section 1 (The register file)] -/
def Obligations.LengthEqualsBytesConsumed : Prop :=
  (∀ i : Instr, i.usedPrefix = false → (encode i).length = i.len ∧ 1 ≤ i.len ∧ i.len ≤ 3) ∧
  (∀ (i : Instr) (s t : State), inS i = true → transfersControl i = false → exec i s = .next t →
    t.pc = s.pc + BitVec.ofNat 16 i.len)

/-- The words of NOP, JP 0x1234, AND 0x0F, CALL 0x0200, CP C, INC (HL), DEC A, JR C,-16, JP M,0x3000, RRCA, DI, EX AF,AF',
RET, XOR A, OR B, LD A,0x12, HALT and the prefix 0xED 0xB0, first Byte lowest, decode to them. [95_test_vectors.md part 2.1
(Decoder), 30_encoding.md section 3 (The tables)] -/
def Obligations.SampleWordsDecode : Prop :=
  decodeTableWord 8 0x00 = some .nop ∧ decodeTableWord 24 0x1234C3 = some (.jpNn 0x1234#16) ∧
  decodeTableWord 16 0x0FE6 = some (.andN 0x0F#8) ∧ decodeTableWord 24 0x0200CD = some (.callNn 0x0200#16) ∧
  decodeTableWord 8 0b10111001 = some .cpC ∧ decodeTableWord 8 0b00110100 = some .incMemHl ∧
  decodeTableWord 8 0b00111101 = some .decA ∧ decodeTableWord 16 0xF038 = some (.jrCD 0xF0#8) ∧
  decodeTableWord 24 0x3000FA = some (.jpMNn 0x3000#16) ∧ decodeTableWord 8 0b00001111 = some .rrca ∧
  decodeTableWord 8 0b11110011 = some .di ∧ decodeTableWord 8 0b00001000 = some .exAfAf ∧
  decodeTableWord 8 0b11001001 = some .ret ∧ decodeTableWord 8 0b10101111 = some .xorA ∧
  decodeTableWord 8 0b10110000 = some .orB ∧ decodeTableWord 16 0x123E = some (.ldAN 0x12#8) ∧
  decodeTableWord 8 0b01110110 = some .halt ∧ decodeTableWord 16 0xB0ED = some (.prefixEd 0xB0#8)

/-- In every status but Created, and but for a pending stop request inside run(), if the window at PC decodes to i then step
is exec i, run under status Running inside run() and Ready otherwise. Reading step outside run() as the host's step hook is
the model's choice (log 7). [60_exceptions.md section 1 (One step), 60_exceptions.md section 2 (The control FSM)] -/
def Obligations.StepRunsDecodedInstruction : Prop :=
  ∀ (s : State) (i : Instr), s.status ≠ .created → ¬(s.status = .running ∧ s.stopReq = true) →
    decodeInstr (fetchWindow s) = .ok i →
    step s = exec i { s with status := if s.status = .running then .running else .ready }

/-- Byte k of the window is the Byte of memory at PC + k where that is at most 0xFFFF; above, it is 0x00 under WINDOW_TOP =
ZeroFill and the Byte at PC + k modulo 65536 under Wrap (decision D4 of the spec, log 4). [20_memory.md section 5 (The fetch
window)] -/
def Obligations.WindowIsFourBytesFromPc : Prop :=
  ∀ s : State,
    let byte := fun (k : Nat) =>
      if s.pc.toNat + k ≤ 0xFFFF then s.readByte (s.pc + BitVec.ofNat 16 k)
      else match s.params.windowTop with
        | .zeroFill => 0#8
        | .wrap => s.readByte (s.pc + BitVec.ofNat 16 k)
    fetchWindow s = ⟨byte 0, byte 1, byte 2, byte 3⟩

/-- For every state with room for a window at PC, the state withFetchWord gives fetches exactly the word's window, and its
next step is exec of the instruction the word decodes to. withFetchWord is the model's own (log 19). [20_memory.md section 5
(The fetch window), 60_exceptions.md section 1 (One step)] -/
def Obligations.PlacedWordIsFetchedAndRun : Prop :=
  ∀ (s : State) (nbits w : Nat) (i : Instr), s.pc.toNat ≤ 0xFFFC → decodeTableWord nbits w = some i →
    fetchWindow (s.withFetchWord nbits w) = windowOfTableWord nbits w ∧
    step (s.withFetchWord nbits w) =
      exec i { s.withFetchWord nbits w with status := if s.status = .running then .running else .ready }

/-- A step with a pending stop request inside run() only clears the request and sets Stopped, whatever the next instruction
is; any other step leaves stop_req alone and leaves Running or Ready if the decoded instruction is in S and Halted(reason)
if not. [60_exceptions.md section 2 (The control FSM), 60_exceptions.md section 3 (Halt causes)] -/
def Obligations.StepStatusFollowsTheLoop : Prop :=
  ∀ s t : State, step s = .next t →
    ((s.status = .running ∧ s.stopReq = true) → t = { s with status := .stopped, stopReq := false }) ∧
    (¬(s.status = .running ∧ s.stopReq = true) → t.stopReq = s.stopReq ∧
      ∃ i : Instr, decodeInstr (fetchWindow s) = .ok i ∧
        (inS i = true → t.status = if s.status = .running then .running else .ready) ∧
        (inS i = false → ∃ reason : HaltReason, t.status = .halted reason))

/-- From every state, whatever memory and registers hold, step answers a next state exactly if the status is not Created; in
Created it is refused as a step before reset. [60_exceptions.md section 2 (The control FSM), 60_exceptions.md section 3
(Halt causes)] -/
def Obligations.StepStopsOnlyBeforeReset : Prop :=
  ∀ s : State,
    (Continues (step s) ↔ s.status ≠ .created) ∧ (s.status = .created → step s = .refused .stepBeforeReset)

/-- Under HALT_PC = Frozen, if a step ends Halted then it changed nothing but the status, and the next step answers the very
same state (decision D3 of the spec, log 3). [60_exceptions.md section 2 (The control FSM), 60_exceptions.md section 3 (Halt
causes)] -/
def Obligations.HaltedStepHaltsAgain : Prop :=
  ∀ (s t : State) (reason : HaltReason), s.params.haltPc = .frozen → step s = .next t → t.status = .halted reason →
    t = { s with status := .halted reason } ∧ step t = .next t

/-- Replacing those registers by any values commutes with the step: the outcome is the same with the same replacement, so no
step reads them and none writes them, fetches included (D14 for R, log 20). [10_state.md section 1 (The register file),
10_state.md section 3 (Control registers), 10_state.md section 4 (Register access by instruction)] -/
def Obligations.UnreachedRegistersDoNotMatter : Prop :=
  ∀ (s : State) (u : Unreached), step (s.withUnreached u) = mapNext (fun t => t.withUnreached u) (step s)

/-- For every instruction and state, with the latch set to any value first, the outcome is the same but for the latch, which
DI leaves false and every other instruction as it was. [10_state.md section 3 (Control registers), 60_exceptions.md section
4 (Interrupts)] -/
def Obligations.LatchIsClearedByDiAndReadByNothing : Prop :=
  ∀ (i : Instr) (s : State) (b : Bool),
    exec i { s with iff := b } = mapNext (fun t => { t with iff := b && decide (i ≠ .di) }) (exec i s)

/-- Every instruction but EX AF,AF' leaves bits 3 and 5 of F and F' as they were, and no instruction's outcome depends on
them but through EX (decision D7 of the spec, log 12). [10_state.md section 2 (The flags register)] -/
def Obligations.UndefinedFlagBitsAreKept : Prop :=
  (∀ (i : Instr) (s t : State), i ≠ .exAfAf → exec i s = .next t →
    t.regs.f.x3 = s.regs.f.x3 ∧ t.regs.f.x5 = s.regs.f.x5 ∧ t.shadow.f = s.shadow.f) ∧
  (∀ (i : Instr) (s : State) (b3 b5 : Bool), i ≠ .exAfAf →
    exec i (s.setFlags { s.regs.f with x3 := b3, x5 := b5 }) =
      mapNext (fun t => t.setFlags { t.regs.f with x3 := b3, x5 := b5 }) (exec i s))

/-- For every instruction but EX AF,AF', replacing F.H and F.N before it changes nothing after it but F.H and F.N
themselves. [10_state.md section 2 (The flags register)] -/
def Obligations.HalfCarryAndSubtractAreUnread : Prop :=
  ∀ (i : Instr) (s : State) (half sub : Bool), i ≠ .exAfAf →
    mapNext (fun t => t.withHalfAndSub false false) (exec i (s.withHalfAndSub half sub)) =
      mapNext (fun t => t.withHalfAndSub false false) (exec i s)

/-- For every instruction that answers a next state: every 8-bit register but the written operand is unchanged; F is
unchanged but by the flag-writing ones; the shadow set but by EX AF,AF'; SP but by CALL and RET; IFF but by DI; the status
by every instruction of S; IX, IY, I, R, the configuration and stop_req always. [10_state.md section 4 (Register access by
instruction), 10_state.md section 2 (The flags register)] -/
def Obligations.RegisterFrameOfEveryInstruction : Prop :=
  ∀ (i : Instr) (s t : State), exec i s = .next t →
    (∀ r : Operand8, r ≠ .memHl → writtenOperand i ≠ some r → readR r t = readR r s) ∧
    (writesFlags i = false → t.regs.f = s.regs.f) ∧
    (i ≠ .exAfAf → t.shadow = s.shadow) ∧
    (i.tag ≠ .call → i ≠ .ret → t.sp = s.sp) ∧
    (i ≠ .di → t.iff = s.iff) ∧
    (inS i = true → t.status = s.status) ∧
    t.ix = s.ix ∧ t.iy = s.iy ∧ t.i = s.i ∧ t.r = s.r ∧ t.params = s.params ∧ t.stopReq = s.stopReq

/-- For every instruction that answers a next state and every address that is none of those it stores to (HL for INC (HL)
and DEC (HL), the two stack Bytes for CALL, none for any other), the Byte there reads as before. [20_memory.md section 1
(The memory unit), 20_memory.md section 6 (Access side effects, address map, atomicity)] -/
def Obligations.MemoryFrameOfEveryInstruction : Prop :=
  ∀ (i : Instr) (s t : State), exec i s = .next t →
    ∀ a : Word, a ∉ storedAddresses i s → t.readByte a = s.readByte a

/-- INC (HL) answers a state in which the Byte at HL is the old one plus 1 modulo 256, DEC (HL) minus 1, and in which every
other Byte, HL, A and SP are as before. [40_alu.md section 5 (Increment and decrement)] -/
def Obligations.MemoryOperandIsUpdatedInPlace : Prop :=
  ∀ s : State,
    (∃ t : State, exec .incMemHl s = .next t ∧ t.readByte s.hl = s.readByte s.hl + 1#8 ∧
      (∀ a : Word, a ≠ s.hl → t.readByte a = s.readByte a) ∧ t.hl = s.hl ∧ t.regs.a = s.regs.a ∧ t.sp = s.sp) ∧
    (∃ t : State, exec .decMemHl s = .next t ∧ t.readByte s.hl = s.readByte s.hl - 1#8 ∧
      (∀ a : Word, a ≠ s.hl → t.readByte a = s.readByte a) ∧ t.hl = s.hl ∧ t.regs.a = s.regs.a ∧ t.sp = s.sp)

/-- Every instruction moves the draw counter by the number of draws it takes: one for OR, XOR, CP, INC and DEC, none for any
other; and F.PV after OR and XOR, F.PV after CP, F.H after INC and DEC is the free value of that draw. The counter is the
model's own (log 5); the draws are decisions D10 to D12 of the spec. [00_scope.md section 3 (Implementation parameters),
40_alu.md section 1 (The flag policy), 60_exceptions.md section 1 (One step)] -/
def Obligations.DrawsAreFreshAndOnlyWhereNamed : Prop :=
  ∀ (i : Instr) (s t : State), exec i s = .next t →
    t.drawCount = s.drawCount + drawsTaken i ∧
    ((∃ r, i = Instr.orR r ∨ i = Instr.xorR r) ∨ (∃ n, i = .orN n ∨ i = .xorN n) →
      t.regs.f.pv = Config.drawPvLogic s.drawCount) ∧
    ((∃ r, i = Instr.cpR r) ∨ (∃ n, i = .cpN n) → t.regs.f.pv = Config.drawPvCp s.drawCount) ∧
    ((∃ r, i = Instr.incR r ∨ i = Instr.decR r) → t.regs.f.h = Config.drawHIncDec s.drawCount)

/-- Codes 0 to 7 are NZ, Z, NC, C, PO, PE, P, M: F.Z = 0, F.Z = 1, F.C = 0, F.C = 1, F.PV = 0, F.PV = 1, F.S = 0, F.S = 1;
JR's codes 0 to 3 are the first four (decision D19 of the spec, log 11). [30_encoding.md section 2 (Formats and fields),
41_control_flow.md section 4 (Conditions)] -/
def Obligations.ConditionTestsOneFlagBit : Prop :=
  ∀ f : Flags,
    (condHolds (condOf 0#3) f = true ↔ f.z = false) ∧ (condHolds (condOf 1#3) f = true ↔ f.z = true) ∧
    (condHolds (condOf 2#3) f = true ↔ f.c = false) ∧ (condHolds (condOf 3#3) f = true ↔ f.c = true) ∧
    (condHolds (condOf 4#3) f = true ↔ f.pv = false) ∧ (condHolds (condOf 5#3) f = true ↔ f.pv = true) ∧
    (condHolds (condOf 6#3) f = true ↔ f.s = false) ∧ (condHolds (condOf 7#3) f = true ↔ f.s = true) ∧
    (relCondOf 0#2).toCond = condOf 0#3 ∧ (relCondOf 1#2).toCond = condOf 1#3 ∧
    (relCondOf 2#2).toCond = condOf 2#3 ∧ (relCondOf 3#2).toCond = condOf 3#3

/-- Codes 0 to 5 and 7 read and write B, C, D, E, H, L and A and nothing else; code 6 reads and writes the Byte at H : L, H
the high Byte (decision D19 of the spec, log 11). [30_encoding.md section 2 (Formats and fields), 10_state.md section 1 (The
register file)] -/
def Obligations.OperandCodesNameTheirRegisters : Prop :=
  ∀ (s : State) (v : Byte),
    readR (operand8 0#3) s = s.regs.b ∧ writeR (operand8 0#3) v s = { s with regs := { s.regs with b := v } } ∧
    readR (operand8 1#3) s = s.regs.c ∧ writeR (operand8 1#3) v s = { s with regs := { s.regs with c := v } } ∧
    readR (operand8 2#3) s = s.regs.d ∧ writeR (operand8 2#3) v s = { s with regs := { s.regs with d := v } } ∧
    readR (operand8 3#3) s = s.regs.e ∧ writeR (operand8 3#3) v s = { s with regs := { s.regs with e := v } } ∧
    readR (operand8 4#3) s = s.regs.h ∧ writeR (operand8 4#3) v s = { s with regs := { s.regs with h := v } } ∧
    readR (operand8 5#3) s = s.regs.l ∧ writeR (operand8 5#3) v s = { s with regs := { s.regs with l := v } } ∧
    readR (operand8 7#3) s = s.regs.a ∧ writeR (operand8 7#3) v s = { s with regs := { s.regs with a := v } } ∧
    readR (operand8 6#3) s = s.mem.read (s.regs.h ++ s.regs.l).toNat ∧
    writeR (operand8 6#3) v s = { s with mem := s.mem.write (s.regs.h ++ s.regs.l).toNat v }

/-- fromByte never sets half-carry and takes every other bit of b; packing it back gives b with bit 4 cleared; toByte places
F.H at bit 4; a host write of F as a Byte and a read back give b with bit 4 cleared, in F and in F' (decisions D8, D9, log
12). [10_state.md section 2 (The flags register)] -/
def Obligations.PackOfUnpackClearsHalfCarry : Prop :=
  (∀ b : Byte, (Flags.fromByte b).h = false ∧ (Flags.fromByte b).toByte = b &&& 0xEF#8) ∧
  (∀ f : Flags, f.toByte.getLsbD 4 = f.h ∧ f.toByte.getLsbD 7 = f.s ∧ f.toByte.getLsbD 6 = f.z ∧
    f.toByte.getLsbD 5 = f.x5 ∧ f.toByte.getLsbD 3 = f.x3 ∧ f.toByte.getLsbD 2 = f.pv ∧ f.toByte.getLsbD 1 = f.n ∧
    f.toByte.getLsbD 0 = f.c) ∧
  (∀ (slot : FlagSlot) (b : Byte) (s : State), hostReadF slot (hostWriteF slot b s) = b &&& 0xEF#8)

/-- A host write of a Byte register, a Word register, a flag bit, F or F' as a Byte, IFF or a Byte of memory is read back (F
and F' with bit 4 cleared), every other element of the same kind reads as before, and no other kind of element changes: a
Byte register write leaves F, F', the Word registers, IFF, memory, status, stop_req and the configuration, and so for each
of the others. A memory write above 0xFFFF changes nothing and a read there gives 0x00. The form of the accessors, with a
memory address that is any number, is the model's reading (log 21); what fromByte clears is decision D8 of the spec (log
12). [70_reset_and_hazards.md section 3 (The host interface), 10_state.md section 1 (The register file), 10_state.md section
2 (The flags register), 10_state.md section 3 (Control registers), 20_memory.md section 1 (The memory unit)] -/
def Obligations.HostAccessorsReadBackWhatTheyWrote : Prop :=
  (∀ (reg : ByteReg) (v : Byte) (s : State),
    (∀ reg' : ByteReg, hostReadByteReg reg' (hostWriteByteReg reg v s) =
      (if reg' = reg then v else hostReadByteReg reg' s)) ∧
    hostWriteByteReg reg v s = { s with
      regs := { (hostWriteByteReg reg v s).regs with f := s.regs.f },
      shadow := { (hostWriteByteReg reg v s).shadow with f := s.shadow.f },
      i := (hostWriteByteReg reg v s).i, r := (hostWriteByteReg reg v s).r }) ∧
  (∀ (reg : WordReg) (v : Word) (s : State),
    (∀ reg' : WordReg, hostReadWordReg reg' (hostWriteWordReg reg v s) =
      (if reg' = reg then v else hostReadWordReg reg' s)) ∧
    hostWriteWordReg reg v s = { s with
      pc := (hostWriteWordReg reg v s).pc, sp := (hostWriteWordReg reg v s).sp,
      ix := (hostWriteWordReg reg v s).ix, iy := (hostWriteWordReg reg v s).iy }) ∧
  (∀ (slot : FlagSlot) (k : FlagName) (b : Bool) (s : State),
    (∀ (slot' : FlagSlot) (k' : FlagName), hostReadFlag slot' k' (hostWriteFlag slot k b s) =
      (if slot' = slot ∧ k' = k then b else hostReadFlag slot' k' s)) ∧
    hostWriteFlag slot k b s = { s with
      regs := { s.regs with f := (hostWriteFlag slot k b s).regs.f },
      shadow := { s.shadow with f := (hostWriteFlag slot k b s).shadow.f } }) ∧
  (∀ (slot : FlagSlot) (v : Byte) (s : State),
    (∀ slot' : FlagSlot, hostReadF slot' (hostWriteF slot v s) =
      (if slot' = slot then v &&& 0xEF#8 else hostReadF slot' s)) ∧
    (∀ (slot' : FlagSlot) (k' : FlagName), slot' ≠ slot →
      hostReadFlag slot' k' (hostWriteF slot v s) = hostReadFlag slot' k' s) ∧
    hostWriteF slot v s = { s with
      regs := { s.regs with f := (hostWriteF slot v s).regs.f },
      shadow := { s.shadow with f := (hostWriteF slot v s).shadow.f } }) ∧
  (∀ (b : Bool) (s : State), hostReadIff (hostWriteIff b s) = b ∧ hostWriteIff b s = { s with iff := b }) ∧
  (∀ (a : Nat) (v : Byte) (s : State),
    (∀ b : Nat, hostReadMem b (hostWriteMem a v s) = (if b = a ∧ a ≤ 0xFFFF then v else hostReadMem b s)) ∧
    hostWriteMem a v s = { s with mem := (hostWriteMem a v s).mem } ∧
    (0xFFFF < a → hostWriteMem a v s = s ∧ hostReadMem a s = 0#8))

/-- While Running every action but the stop request is refused. In Created run() and step(instr) are refused. In Created,
Ready, Stopped and Halted hardReset(), the load port and every accessor are permitted, and each has its effect and no other.
In Ready, Stopped and Halted run() sets Running and nothing else. In every status the stop request sets stop_req and nothing
else. (Decision D20 of the spec; that actions are functions applied between steps is log 17.) [60_exceptions.md section 2
(The control FSM)] -/
def Obligations.HostActsOnlyWherePermitted : Prop :=
  (∀ (act : HostAction) (s : State), s.status = .running → act ≠ .requestStop →
    hostAct act s = .refused .actionNotPermitted) ∧
  (∀ (s : State) (t : Decoded), s.status = .created →
    hostAct .run s = .refused .actionNotPermitted ∧ hostAct (.stepInstr t) s = .refused .actionNotPermitted) ∧
  (∀ s : State, s.status ≠ .running →
    hostAct .hardReset s = .next (hardReset s) ∧
    (∀ img : List Byte, hostAct (.load img) s = .next (loadImage img s)) ∧
    (∀ (reg : ByteReg) (v : Byte), hostAct (.writeByteReg reg v) s = .next (hostWriteByteReg reg v s)) ∧
    (∀ (reg : WordReg) (v : Word), hostAct (.writeWordReg reg v) s = .next (hostWriteWordReg reg v s)) ∧
    (∀ (slot : FlagSlot) (v : Byte), hostAct (.writeF slot v) s = .next (hostWriteF slot v s)) ∧
    (∀ (slot : FlagSlot) (k : FlagName) (b : Bool),
      hostAct (.writeFlag slot k b) s = .next (hostWriteFlag slot k b s)) ∧
    (∀ b : Bool, hostAct (.writeIff b) s = .next (hostWriteIff b s)) ∧
    (∀ (a : Nat) (v : Byte), hostAct (.writeMem a v) s = .next (hostWriteMem a v s))) ∧
  (∀ s : State, s.status ≠ .created → s.status ≠ .running →
    hostAct .run s = .next { s with status := .running }) ∧
  (∀ s : State, hostAct .requestStop s = .next { s with stopReq := true })

/-- In Ready, Stopped and Halted the host's step(instr) with the triple that the window decodes to is exactly the step. With
any triple that is well-formed and not Invalid it is exec, under status Ready, of the instruction of that tag whose operand
Bytes are the window's (win[1], or win[2] : win[1]); with the Invalid triple it leaves Halted(Invalid(win[0], win[1])), PC
by HALT_PC. A triple that no window decodes to is refused (decision D22 of the spec, log 8). [60_exceptions.md section 1
(One step), 60_exceptions.md section 2 (The control FSM)] -/
def Obligations.StepHookExecutesItsTriple : Prop :=
  ∀ (s : State) (t : Decoded), s.status ≠ .created → s.status ≠ .running →
    hostAct (.stepInstr (decode (fetchWindow s))) s = step s ∧
    (t.wf = true → t.tag ≠ .invalid → ∃ i : Instr, i.triple = t ∧
      encode i = i.opcode :: (fetchWindow s).bytes.tail.take (t.len - 1) ∧
      hostAct (.stepInstr t) s = exec i { s with status := .ready }) ∧
    (t.wf = true → t.tag = .invalid → hostAct (.stepInstr t) s = .next { s with
      status := .halted (.invalid (fetchWindow s).b0 (fetchWindow s).b1),
      pc := match s.params.haltPc with
        | .frozen => s.pc
        | .advanced => s.pc + 1#16 }) ∧
    (t.wf = false → hostAct (.stepInstr t) s = .refused .tripleNotDecoded)

/-- From Ready, Stopped or Halted with stop_req set, calling run() and letting the Loop go for any number of boundaries
above zero ends in status Stopped with stop_req false and every register and Byte of memory as before. [60_exceptions.md
section 2 (The control FSM)] -/
def Obligations.RunStopsAtThePendingRequest : Prop :=
  ∀ (s : State) (fuel : Nat), s.status ≠ .created → s.status ≠ .running → s.stopReq = true →
    ∃ t : State, hostAct .run s = .next t ∧
      runLoop (fuel + 1) t = .next { s with status := .stopped, stopReq := false }

/-- From every state inside run(), a Loop of k + 1 boundaries is the Loop of k boundaries from the state that step answers,
and a Loop of no boundary is the state itself. Once the status is no longer Running, further boundaries change nothing. For
every number of boundaries the Loop answers a next state, and its status is Running (not ended yet), Stopped, or Halted. The
bound on the number of boundaries is the model's, since a run need not end. [60_exceptions.md section 2 (The control FSM),
60_exceptions.md section 3 (Halt causes)] -/
def Obligations.RunIsStepsUntilItEnds : Prop :=
  (∀ s : State, runLoop 0 s = .next s) ∧
  (∀ (fuel : Nat) (s t : State), s.status = .running → step s = .next t →
    runLoop (fuel + 1) s = runLoop fuel t) ∧
  (∀ (fuel more : Nat) (s t : State), runLoop fuel s = .next t → t.status ≠ .running →
    runLoop (fuel + more) s = .next t) ∧
  (∀ (fuel : Nat) (s : State), s.status = .running →
    ∃ t : State, runLoop fuel s = .next t ∧
      (t.status = .running ∨ t.status = .stopped ∨ ∃ reason : HaltReason, t.status = .halted reason))
end

