-- ==== Sys2Proof/Laws/Decode.lean ====
section
/-! SUPPORT. The Byte-order helpers undo each other, and the window built from an instruction's Bytes. -/

namespace Sys2Proof

@[simp] theorem joinBytes_hi8_lo8 (w : Word) : joinBytes (hi8 w) (lo8 w) = w := by
  apply BitVec.eq_of_getLsbD_eq
  intro k hk
  simp only [joinBytes, hi8, lo8, BitVec.getLsbD_append, BitVec.getLsbD_extractLsb']
  by_cases h : k < 8
  · simp [h]
  · have h2 : k - 8 < 8 := by omega
    have h3 : 8 + (k - 8) = k := by omega
    simp [h, h2, h3]

@[simp] theorem hi8_joinBytes (hi lo : Byte) : hi8 (joinBytes hi lo) = hi := by
  apply BitVec.eq_of_getLsbD_eq
  intro k hk
  rw [hi8, BitVec.getLsbD_extractLsb', joinBytes, BitVec.getLsbD_append]
  simp [hk]

@[simp] theorem lo8_joinBytes (hi lo : Byte) : lo8 (joinBytes hi lo) = lo := by
  apply BitVec.eq_of_getLsbD_eq
  intro k hk
  rw [lo8, BitVec.getLsbD_extractLsb', joinBytes, BitVec.getLsbD_append]
  simp [hk]

/-- The window of an instruction's Bytes begins with its opcode Byte. -/
@[simp] theorem Window.ofBytes_encode_b0 (i : Instr) (rest : List Byte) :
    (Window.ofBytes (encode i ++ rest)).b0 = i.opcode := rfl

/-- What the window holds after an instruction without operands, with one operand Byte, with a Word. -/
theorem Window.ofBytes_cons (b : Byte) (bs : List Byte) :
    Window.ofBytes (b :: bs) = { b0 := b, b1 := bs.getD 0 0#8, b2 := bs.getD 1 0#8, b3 := bs.getD 2 0#8 } := rfl

end Sys2Proof
end

