-- ==== Sys2Proof/Laws/Memory.lean ====
section
/-! SUPPORT. The laws of the memory: a read after a write, and that every operation keeps the canonical form. They hold of
every list of cells, canonical or not, where they say nothing of `wf`. -/

namespace Sys2Proof.Machine

theorem Memory.lookup_filter (m : Memory) (a b : Nat) :
    Memory.lookup (m.filter (fun cell => cell.1 != a)) b = if b = a then 0#8 else Memory.lookup m b := by
  induction m with
  | nil => simp [Memory.lookup]
  | cons cell rest ih =>
    by_cases h : cell.1 = a
    · by_cases hb : b = a
      · simp_all
      · have hcb : cell.1 ≠ b := fun hc => hb (hc.symm.trans h)
        simp_all [Memory.lookup]
    · by_cases hb : b = a
      · simp_all [Memory.lookup]
      · simp_all [Memory.lookup]

theorem Memory.lookup_insertCell (a : Nat) (v : Byte) (m : Memory) (b : Nat) (hm : ∀ cell ∈ m, cell.1 ≠ a) :
    Memory.lookup (Memory.insertCell (a, v) m) b = if b = a then v else Memory.lookup m b := by
  induction m with
  | nil =>
    by_cases hb : b = a
    · simp [Memory.insertCell, Memory.lookup, hb]
    · simp [Memory.insertCell, Memory.lookup, hb, Ne.symm hb]
  | cons cell rest ih =>
    have hc : cell.1 ≠ a := hm cell (by simp)
    have ih' := ih (fun x hx => hm x (by simp [hx]))
    by_cases hlt : a < cell.1
    · by_cases hb : b = a
      · simp [Memory.insertCell, Memory.lookup, hlt, hb]
      · simp [Memory.insertCell, Memory.lookup, hlt, hb, Ne.symm hb]
    · by_cases hb : b = a
      · subst hb; simp [Memory.insertCell, Memory.lookup, hlt, ih', hc]
      · simp [Memory.insertCell, Memory.lookup, hlt, ih', hb]

/-- A read after a write: the written Byte at the address written, every other address as before (20_memory.md R51, R59). -/
theorem Memory.read_write (m : Memory) (a : Nat) (v : Byte) (b : Nat) :
    (m.write a v).read b = if b = a ∧ a ≤ 0xFFFF then v else m.read b := by
  by_cases ha : a ≤ 0xFFFF
  · by_cases hbr : b ≤ 0xFFFF
    · by_cases hv : v = 0#8
      · by_cases hb : b = a <;> simp_all [Memory.write, Memory.read, Memory.lookup_filter]
      · have hf : ∀ cell ∈ m.filter (fun cell => cell.1 != a), cell.1 ≠ a := by
          intro cell hcell
          have h2 := (List.mem_filter.mp hcell).2
          simpa using h2
        by_cases hb : b = a <;>
          simp_all [Memory.write, Memory.read, Memory.lookup_insertCell, Memory.lookup_filter]
    · have hne : b ≠ a := by omega
      simp [Memory.read, hbr, hne]
  · simp [Memory.write, ha]

theorem Memory.read_write_same (m : Memory) (a : Word) (v : Byte) : (m.write a.toNat v).read a.toNat = v := by
  have h := a.isLt
  rw [Memory.read_write, if_pos ⟨rfl, by omega⟩]

theorem Memory.read_write_other (m : Memory) (a : Nat) (v : Byte) (b : Nat) (h : b ≠ a) :
    (m.write a v).read b = m.read b := by
  rw [Memory.read_write, if_neg (fun hh => h hh.1)]

/-- A read after a write, at Word addresses. -/
theorem Memory.read_write_word (m : Memory) (a b : Word) (v : Byte) :
    (m.write a.toNat v).read b.toNat = if b = a then v else m.read b.toNat := by
  by_cases h : b = a
  · rw [h, Memory.read_write_same, if_pos rfl]
  · rw [Memory.read_write_other _ _ _ _ (fun hh => h (BitVec.eq_of_toNat_eq hh)), if_neg h]

/-- Memory at creation reads 0x00 everywhere (10_state.md R38). -/
theorem Memory.read_empty (a : Nat) : Memory.read [] a = 0#8 := by
  by_cases h : a ≤ 0xFFFF <;> simp [Memory.read, Memory.lookup]

/-- An address above 0xFFFF is the soft failure (20_memory.md R51). -/
theorem Memory.read_outOfRange (m : Memory) (a : Nat) (h : 0xFFFF < a) : m.read a = 0#8 := by
  simp [Memory.read, Nat.not_le.mpr h]

theorem Memory.write_outOfRange (m : Memory) (a : Nat) (v : Byte) (h : 0xFFFF < a) : m.write a v = m := by
  simp [Memory.write, Nat.not_le.mpr h]

theorem Memory.wfFrom_mono (m : Memory) (low low' : Nat) (h : low' ≤ low) (hm : Memory.wfFrom low m = true) :
    Memory.wfFrom low' m = true := by
  cases m with
  | nil => rfl
  | cons cell rest =>
    simp [Memory.wfFrom] at hm ⊢
    exact ⟨⟨⟨by omega, hm.1.1.2⟩, hm.1.2⟩, hm.2⟩

theorem Memory.wfFrom_filter (p : Host.Cell → Bool) (m : Memory) (low : Nat) (hm : Memory.wfFrom low m = true) :
    Memory.wfFrom low (m.filter p) = true := by
  induction m generalizing low with
  | nil => rfl
  | cons cell rest ih =>
    simp only [Memory.wfFrom, Bool.and_eq_true, decide_eq_true_eq] at hm
    by_cases hp : p cell = true
    · simp only [List.filter_cons_of_pos hp, Memory.wfFrom, Bool.and_eq_true, decide_eq_true_eq]
      exact ⟨hm.1, ih _ hm.2⟩
    · rw [List.filter_cons_of_neg hp]
      exact Memory.wfFrom_mono _ (cell.1 + 1) low (by omega) (ih _ hm.2)

theorem Memory.wfFrom_insertCell (a : Nat) (v : Byte) (m : Memory) (low : Nat) (hm : Memory.wfFrom low m = true)
    (hlow : low ≤ a) (ha : a ≤ 0xFFFF) (hv : v ≠ 0#8) (hne : ∀ cell ∈ m, cell.1 ≠ a) :
    Memory.wfFrom low (Memory.insertCell (a, v) m) = true := by
  induction m generalizing low with
  | nil => simp [Memory.insertCell, Memory.wfFrom, hlow, ha, hv]
  | cons cell rest ih =>
    have hm' := hm
    simp only [Memory.wfFrom, Bool.and_eq_true, decide_eq_true_eq] at hm'
    have hc : cell.1 ≠ a := hne cell (by simp)
    by_cases hlt : a < cell.1
    · have htail : Memory.wfFrom (a + 1) (cell :: rest) = true := by
        simp only [Memory.wfFrom, Bool.and_eq_true, decide_eq_true_eq]
        exact ⟨⟨⟨by omega, hm'.1.1.2⟩, hm'.1.2⟩, hm'.2⟩
      have hstep : Memory.insertCell (a, v) (cell :: rest) = (a, v) :: cell :: rest := by
        simp [Memory.insertCell, hlt]
      rw [hstep]
      unfold Memory.wfFrom
      simp only [Bool.and_eq_true, decide_eq_true_eq, bne_iff_ne, ne_eq]
      exact ⟨⟨⟨hlow, ha⟩, hv⟩, htail⟩
    · simp only [Memory.insertCell, hlt, if_false, Memory.wfFrom, Bool.and_eq_true, decide_eq_true_eq]
      exact ⟨hm'.1, ih _ hm'.2 (by omega) (fun x hx => hne x (by simp [hx]))⟩

/-- A write keeps the canonical form. -/
theorem Memory.write_wf (m : Memory) (a : Nat) (v : Byte) (hm : m.wf = true) : (m.write a v).wf = true := by
  unfold Memory.write Memory.wf
  by_cases ha : a ≤ 0xFFFF
  · by_cases hv : v = 0#8
    · simpa [ha, hv] using Memory.wfFrom_filter _ m 0 hm
    · simp only [ha, hv, if_true, if_false]
      refine Memory.wfFrom_insertCell a v _ 0 (Memory.wfFrom_filter _ m 0 hm) (Nat.zero_le a) ha hv ?_
      intro cell hcell
      have h2 := (List.mem_filter.mp hcell).2
      simpa using h2
  · rw [if_neg ha]; exact hm

/-- A load keeps the canonical form. -/
theorem Memory.writeBytes_wf (bs : List Byte) (m : Memory) (a : Nat) (hm : m.wf = true) :
    (m.writeBytes a bs).wf = true := by
  induction bs generalizing m a with
  | nil => exact hm
  | cons v rest ih => exact ih _ _ (Memory.write_wf m a v hm)

/-- Memory at creation is in the canonical form. -/
theorem Memory.empty_wf : Memory.wf [] = true := rfl

end Sys2Proof.Machine
end

