-- ==== Sys2Proof/Laws/State.lean ====
section
/-! SUPPORT. The fields of State after each named update, one lemma per field, so that no proof unfolds a record update. The
updates of a sequence of operations (the stack's, call and return, halt) are given as one operation. -/

namespace Sys2Proof.Machine

variable (s : State)

@[simp] theorem State.setPc_regs (x : Word) : (s.setPc x).regs = s.regs := rfl
@[simp] theorem State.setPc_shadow (x : Word) : (s.setPc x).shadow = s.shadow := rfl
@[simp] theorem State.setPc_pc (x : Word) : (s.setPc x).pc = x := rfl
@[simp] theorem State.setPc_sp (x : Word) : (s.setPc x).sp = s.sp := rfl
@[simp] theorem State.setPc_ix (x : Word) : (s.setPc x).ix = s.ix := rfl
@[simp] theorem State.setPc_iy (x : Word) : (s.setPc x).iy = s.iy := rfl
@[simp] theorem State.setPc_i (x : Word) : (s.setPc x).i = s.i := rfl
@[simp] theorem State.setPc_r (x : Word) : (s.setPc x).r = s.r := rfl
@[simp] theorem State.setPc_iff (x : Word) : (s.setPc x).iff = s.iff := rfl
@[simp] theorem State.setPc_mem (x : Word) : (s.setPc x).mem = s.mem := rfl
@[simp] theorem State.setPc_status (x : Word) : (s.setPc x).status = s.status := rfl
@[simp] theorem State.setPc_stopReq (x : Word) : (s.setPc x).stopReq = s.stopReq := rfl
@[simp] theorem State.setPc_params (x : Word) : (s.setPc x).params = s.params := rfl
@[simp] theorem State.setPc_drawCount (x : Word) : (s.setPc x).drawCount = s.drawCount := rfl

@[simp] theorem State.setSp_regs (x : Word) : (s.setSp x).regs = s.regs := rfl
@[simp] theorem State.setSp_shadow (x : Word) : (s.setSp x).shadow = s.shadow := rfl
@[simp] theorem State.setSp_pc (x : Word) : (s.setSp x).pc = s.pc := rfl
@[simp] theorem State.setSp_sp (x : Word) : (s.setSp x).sp = x := rfl
@[simp] theorem State.setSp_ix (x : Word) : (s.setSp x).ix = s.ix := rfl
@[simp] theorem State.setSp_iy (x : Word) : (s.setSp x).iy = s.iy := rfl
@[simp] theorem State.setSp_i (x : Word) : (s.setSp x).i = s.i := rfl
@[simp] theorem State.setSp_r (x : Word) : (s.setSp x).r = s.r := rfl
@[simp] theorem State.setSp_iff (x : Word) : (s.setSp x).iff = s.iff := rfl
@[simp] theorem State.setSp_mem (x : Word) : (s.setSp x).mem = s.mem := rfl
@[simp] theorem State.setSp_status (x : Word) : (s.setSp x).status = s.status := rfl
@[simp] theorem State.setSp_stopReq (x : Word) : (s.setSp x).stopReq = s.stopReq := rfl
@[simp] theorem State.setSp_params (x : Word) : (s.setSp x).params = s.params := rfl
@[simp] theorem State.setSp_drawCount (x : Word) : (s.setSp x).drawCount = s.drawCount := rfl

@[simp] theorem State.setA_regs (x : Byte) : (s.setA x).regs = { s.regs with a := x } := rfl
@[simp] theorem State.setA_shadow (x : Byte) : (s.setA x).shadow = s.shadow := rfl
@[simp] theorem State.setA_pc (x : Byte) : (s.setA x).pc = s.pc := rfl
@[simp] theorem State.setA_sp (x : Byte) : (s.setA x).sp = s.sp := rfl
@[simp] theorem State.setA_ix (x : Byte) : (s.setA x).ix = s.ix := rfl
@[simp] theorem State.setA_iy (x : Byte) : (s.setA x).iy = s.iy := rfl
@[simp] theorem State.setA_i (x : Byte) : (s.setA x).i = s.i := rfl
@[simp] theorem State.setA_r (x : Byte) : (s.setA x).r = s.r := rfl
@[simp] theorem State.setA_iff (x : Byte) : (s.setA x).iff = s.iff := rfl
@[simp] theorem State.setA_mem (x : Byte) : (s.setA x).mem = s.mem := rfl
@[simp] theorem State.setA_status (x : Byte) : (s.setA x).status = s.status := rfl
@[simp] theorem State.setA_stopReq (x : Byte) : (s.setA x).stopReq = s.stopReq := rfl
@[simp] theorem State.setA_params (x : Byte) : (s.setA x).params = s.params := rfl
@[simp] theorem State.setA_drawCount (x : Byte) : (s.setA x).drawCount = s.drawCount := rfl

@[simp] theorem State.setFlags_regs (x : Flags) : (s.setFlags x).regs = { s.regs with f := x } := rfl
@[simp] theorem State.setFlags_shadow (x : Flags) : (s.setFlags x).shadow = s.shadow := rfl
@[simp] theorem State.setFlags_pc (x : Flags) : (s.setFlags x).pc = s.pc := rfl
@[simp] theorem State.setFlags_sp (x : Flags) : (s.setFlags x).sp = s.sp := rfl
@[simp] theorem State.setFlags_ix (x : Flags) : (s.setFlags x).ix = s.ix := rfl
@[simp] theorem State.setFlags_iy (x : Flags) : (s.setFlags x).iy = s.iy := rfl
@[simp] theorem State.setFlags_i (x : Flags) : (s.setFlags x).i = s.i := rfl
@[simp] theorem State.setFlags_r (x : Flags) : (s.setFlags x).r = s.r := rfl
@[simp] theorem State.setFlags_iff (x : Flags) : (s.setFlags x).iff = s.iff := rfl
@[simp] theorem State.setFlags_mem (x : Flags) : (s.setFlags x).mem = s.mem := rfl
@[simp] theorem State.setFlags_status (x : Flags) : (s.setFlags x).status = s.status := rfl
@[simp] theorem State.setFlags_stopReq (x : Flags) : (s.setFlags x).stopReq = s.stopReq := rfl
@[simp] theorem State.setFlags_params (x : Flags) : (s.setFlags x).params = s.params := rfl
@[simp] theorem State.setFlags_drawCount (x : Flags) : (s.setFlags x).drawCount = s.drawCount := rfl

@[simp] theorem State.setIff_regs (x : Bool) : (s.setIff x).regs = s.regs := rfl
@[simp] theorem State.setIff_shadow (x : Bool) : (s.setIff x).shadow = s.shadow := rfl
@[simp] theorem State.setIff_pc (x : Bool) : (s.setIff x).pc = s.pc := rfl
@[simp] theorem State.setIff_sp (x : Bool) : (s.setIff x).sp = s.sp := rfl
@[simp] theorem State.setIff_ix (x : Bool) : (s.setIff x).ix = s.ix := rfl
@[simp] theorem State.setIff_iy (x : Bool) : (s.setIff x).iy = s.iy := rfl
@[simp] theorem State.setIff_i (x : Bool) : (s.setIff x).i = s.i := rfl
@[simp] theorem State.setIff_r (x : Bool) : (s.setIff x).r = s.r := rfl
@[simp] theorem State.setIff_iff (x : Bool) : (s.setIff x).iff = x := rfl
@[simp] theorem State.setIff_mem (x : Bool) : (s.setIff x).mem = s.mem := rfl
@[simp] theorem State.setIff_status (x : Bool) : (s.setIff x).status = s.status := rfl
@[simp] theorem State.setIff_stopReq (x : Bool) : (s.setIff x).stopReq = s.stopReq := rfl
@[simp] theorem State.setIff_params (x : Bool) : (s.setIff x).params = s.params := rfl
@[simp] theorem State.setIff_drawCount (x : Bool) : (s.setIff x).drawCount = s.drawCount := rfl

@[simp] theorem State.setStatus_regs (x : Status) : (s.setStatus x).regs = s.regs := rfl
@[simp] theorem State.setStatus_shadow (x : Status) : (s.setStatus x).shadow = s.shadow := rfl
@[simp] theorem State.setStatus_pc (x : Status) : (s.setStatus x).pc = s.pc := rfl
@[simp] theorem State.setStatus_sp (x : Status) : (s.setStatus x).sp = s.sp := rfl
@[simp] theorem State.setStatus_ix (x : Status) : (s.setStatus x).ix = s.ix := rfl
@[simp] theorem State.setStatus_iy (x : Status) : (s.setStatus x).iy = s.iy := rfl
@[simp] theorem State.setStatus_i (x : Status) : (s.setStatus x).i = s.i := rfl
@[simp] theorem State.setStatus_r (x : Status) : (s.setStatus x).r = s.r := rfl
@[simp] theorem State.setStatus_iff (x : Status) : (s.setStatus x).iff = s.iff := rfl
@[simp] theorem State.setStatus_mem (x : Status) : (s.setStatus x).mem = s.mem := rfl
@[simp] theorem State.setStatus_status (x : Status) : (s.setStatus x).status = x := rfl
@[simp] theorem State.setStatus_stopReq (x : Status) : (s.setStatus x).stopReq = s.stopReq := rfl
@[simp] theorem State.setStatus_params (x : Status) : (s.setStatus x).params = s.params := rfl
@[simp] theorem State.setStatus_drawCount (x : Status) : (s.setStatus x).drawCount = s.drawCount := rfl

@[simp] theorem State.advance_regs (x : Nat) : (s.advance x).regs = s.regs := rfl
@[simp] theorem State.advance_shadow (x : Nat) : (s.advance x).shadow = s.shadow := rfl
@[simp] theorem State.advance_pc (x : Nat) : (s.advance x).pc = s.pc + BitVec.ofNat 16 x := rfl
@[simp] theorem State.advance_sp (x : Nat) : (s.advance x).sp = s.sp := rfl
@[simp] theorem State.advance_ix (x : Nat) : (s.advance x).ix = s.ix := rfl
@[simp] theorem State.advance_iy (x : Nat) : (s.advance x).iy = s.iy := rfl
@[simp] theorem State.advance_i (x : Nat) : (s.advance x).i = s.i := rfl
@[simp] theorem State.advance_r (x : Nat) : (s.advance x).r = s.r := rfl
@[simp] theorem State.advance_iff (x : Nat) : (s.advance x).iff = s.iff := rfl
@[simp] theorem State.advance_mem (x : Nat) : (s.advance x).mem = s.mem := rfl
@[simp] theorem State.advance_status (x : Nat) : (s.advance x).status = s.status := rfl
@[simp] theorem State.advance_stopReq (x : Nat) : (s.advance x).stopReq = s.stopReq := rfl
@[simp] theorem State.advance_params (x : Nat) : (s.advance x).params = s.params := rfl
@[simp] theorem State.advance_drawCount (x : Nat) : (s.advance x).drawCount = s.drawCount := rfl

@[simp] theorem State.nextDraw_regs : (s.nextDraw).regs = s.regs := rfl
@[simp] theorem State.nextDraw_shadow : (s.nextDraw).shadow = s.shadow := rfl
@[simp] theorem State.nextDraw_pc : (s.nextDraw).pc = s.pc := rfl
@[simp] theorem State.nextDraw_sp : (s.nextDraw).sp = s.sp := rfl
@[simp] theorem State.nextDraw_ix : (s.nextDraw).ix = s.ix := rfl
@[simp] theorem State.nextDraw_iy : (s.nextDraw).iy = s.iy := rfl
@[simp] theorem State.nextDraw_i : (s.nextDraw).i = s.i := rfl
@[simp] theorem State.nextDraw_r : (s.nextDraw).r = s.r := rfl
@[simp] theorem State.nextDraw_iff : (s.nextDraw).iff = s.iff := rfl
@[simp] theorem State.nextDraw_mem : (s.nextDraw).mem = s.mem := rfl
@[simp] theorem State.nextDraw_status : (s.nextDraw).status = s.status := rfl
@[simp] theorem State.nextDraw_stopReq : (s.nextDraw).stopReq = s.stopReq := rfl
@[simp] theorem State.nextDraw_params : (s.nextDraw).params = s.params := rfl
@[simp] theorem State.nextDraw_drawCount : (s.nextDraw).drawCount = s.drawCount + 1 := rfl

@[simp] theorem State.writeByte_regs (a : Word) (x : Byte) : (s.writeByte a x).regs = s.regs := rfl
@[simp] theorem State.writeByte_shadow (a : Word) (x : Byte) : (s.writeByte a x).shadow = s.shadow := rfl
@[simp] theorem State.writeByte_pc (a : Word) (x : Byte) : (s.writeByte a x).pc = s.pc := rfl
@[simp] theorem State.writeByte_sp (a : Word) (x : Byte) : (s.writeByte a x).sp = s.sp := rfl
@[simp] theorem State.writeByte_ix (a : Word) (x : Byte) : (s.writeByte a x).ix = s.ix := rfl
@[simp] theorem State.writeByte_iy (a : Word) (x : Byte) : (s.writeByte a x).iy = s.iy := rfl
@[simp] theorem State.writeByte_i (a : Word) (x : Byte) : (s.writeByte a x).i = s.i := rfl
@[simp] theorem State.writeByte_r (a : Word) (x : Byte) : (s.writeByte a x).r = s.r := rfl
@[simp] theorem State.writeByte_iff (a : Word) (x : Byte) : (s.writeByte a x).iff = s.iff := rfl
@[simp] theorem State.writeByte_mem (a : Word) (x : Byte) : (s.writeByte a x).mem = s.mem.write a.toNat x := rfl
@[simp] theorem State.writeByte_status (a : Word) (x : Byte) : (s.writeByte a x).status = s.status := rfl
@[simp] theorem State.writeByte_stopReq (a : Word) (x : Byte) : (s.writeByte a x).stopReq = s.stopReq := rfl
@[simp] theorem State.writeByte_params (a : Word) (x : Byte) : (s.writeByte a x).params = s.params := rfl
@[simp] theorem State.writeByte_drawCount (a : Word) (x : Byte) : (s.writeByte a x).drawCount = s.drawCount := rfl

@[simp] theorem State.push8_regs (x : Byte) : (s.push8 x).regs = s.regs := rfl
@[simp] theorem State.push8_shadow (x : Byte) : (s.push8 x).shadow = s.shadow := rfl
@[simp] theorem State.push8_pc (x : Byte) : (s.push8 x).pc = s.pc := rfl
@[simp] theorem State.push8_sp (x : Byte) : (s.push8 x).sp = s.sp - 1#16 := rfl
@[simp] theorem State.push8_ix (x : Byte) : (s.push8 x).ix = s.ix := rfl
@[simp] theorem State.push8_iy (x : Byte) : (s.push8 x).iy = s.iy := rfl
@[simp] theorem State.push8_i (x : Byte) : (s.push8 x).i = s.i := rfl
@[simp] theorem State.push8_r (x : Byte) : (s.push8 x).r = s.r := rfl
@[simp] theorem State.push8_iff (x : Byte) : (s.push8 x).iff = s.iff := rfl
@[simp] theorem State.push8_mem (x : Byte) : (s.push8 x).mem = s.mem.write (s.sp - 1#16).toNat x := rfl
@[simp] theorem State.push8_status (x : Byte) : (s.push8 x).status = s.status := rfl
@[simp] theorem State.push8_stopReq (x : Byte) : (s.push8 x).stopReq = s.stopReq := rfl
@[simp] theorem State.push8_params (x : Byte) : (s.push8 x).params = s.params := rfl
@[simp] theorem State.push8_drawCount (x : Byte) : (s.push8 x).drawCount = s.drawCount := rfl

@[simp] theorem State.pop8_regs : (s.pop8).regs = s.regs := rfl
@[simp] theorem State.pop8_shadow : (s.pop8).shadow = s.shadow := rfl
@[simp] theorem State.pop8_pc : (s.pop8).pc = s.pc := rfl
@[simp] theorem State.pop8_sp : (s.pop8).sp = s.sp + 1#16 := rfl
@[simp] theorem State.pop8_ix : (s.pop8).ix = s.ix := rfl
@[simp] theorem State.pop8_iy : (s.pop8).iy = s.iy := rfl
@[simp] theorem State.pop8_i : (s.pop8).i = s.i := rfl
@[simp] theorem State.pop8_r : (s.pop8).r = s.r := rfl
@[simp] theorem State.pop8_iff : (s.pop8).iff = s.iff := rfl
@[simp] theorem State.pop8_mem : (s.pop8).mem = s.mem := rfl
@[simp] theorem State.pop8_status : (s.pop8).status = s.status := rfl
@[simp] theorem State.pop8_stopReq : (s.pop8).stopReq = s.stopReq := rfl
@[simp] theorem State.pop8_params : (s.pop8).params = s.params := rfl
@[simp] theorem State.pop8_drawCount : (s.pop8).drawCount = s.drawCount := rfl

@[simp] theorem State.pushWord_regs (x : Word) : (s.pushWord x).regs = s.regs := rfl
@[simp] theorem State.pushWord_shadow (x : Word) : (s.pushWord x).shadow = s.shadow := rfl
@[simp] theorem State.pushWord_pc (x : Word) : (s.pushWord x).pc = s.pc := rfl
@[simp] theorem State.pushWord_sp (x : Word) : (s.pushWord x).sp = s.sp - 1#16 - 1#16 := rfl
@[simp] theorem State.pushWord_ix (x : Word) : (s.pushWord x).ix = s.ix := rfl
@[simp] theorem State.pushWord_iy (x : Word) : (s.pushWord x).iy = s.iy := rfl
@[simp] theorem State.pushWord_i (x : Word) : (s.pushWord x).i = s.i := rfl
@[simp] theorem State.pushWord_r (x : Word) : (s.pushWord x).r = s.r := rfl
@[simp] theorem State.pushWord_iff (x : Word) : (s.pushWord x).iff = s.iff := rfl
@[simp] theorem State.pushWord_mem (x : Word) : (s.pushWord x).mem = (s.mem.write (s.sp - 1#16).toNat (hi8 x)).write (s.sp - 1#16 - 1#16).toNat (lo8 x) := rfl
@[simp] theorem State.pushWord_status (x : Word) : (s.pushWord x).status = s.status := rfl
@[simp] theorem State.pushWord_stopReq (x : Word) : (s.pushWord x).stopReq = s.stopReq := rfl
@[simp] theorem State.pushWord_params (x : Word) : (s.pushWord x).params = s.params := rfl
@[simp] theorem State.pushWord_drawCount (x : Word) : (s.pushWord x).drawCount = s.drawCount := rfl

@[simp] theorem State.popWord_regs : (s.popWord).regs = s.regs := rfl
@[simp] theorem State.popWord_shadow : (s.popWord).shadow = s.shadow := rfl
@[simp] theorem State.popWord_pc : (s.popWord).pc = s.pc := rfl
@[simp] theorem State.popWord_sp : (s.popWord).sp = s.sp + 1#16 + 1#16 := rfl
@[simp] theorem State.popWord_ix : (s.popWord).ix = s.ix := rfl
@[simp] theorem State.popWord_iy : (s.popWord).iy = s.iy := rfl
@[simp] theorem State.popWord_i : (s.popWord).i = s.i := rfl
@[simp] theorem State.popWord_r : (s.popWord).r = s.r := rfl
@[simp] theorem State.popWord_iff : (s.popWord).iff = s.iff := rfl
@[simp] theorem State.popWord_mem : (s.popWord).mem = s.mem := rfl
@[simp] theorem State.popWord_status : (s.popWord).status = s.status := rfl
@[simp] theorem State.popWord_stopReq : (s.popWord).stopReq = s.stopReq := rfl
@[simp] theorem State.popWord_params : (s.popWord).params = s.params := rfl
@[simp] theorem State.popWord_drawCount : (s.popWord).drawCount = s.drawCount := rfl

@[simp] theorem State.call_regs (x : Word) : (s.call x).regs = s.regs := rfl
@[simp] theorem State.call_shadow (x : Word) : (s.call x).shadow = s.shadow := rfl
@[simp] theorem State.call_pc (x : Word) : (s.call x).pc = x := rfl
@[simp] theorem State.call_sp (x : Word) : (s.call x).sp = s.sp - 1#16 - 1#16 := rfl
@[simp] theorem State.call_ix (x : Word) : (s.call x).ix = s.ix := rfl
@[simp] theorem State.call_iy (x : Word) : (s.call x).iy = s.iy := rfl
@[simp] theorem State.call_i (x : Word) : (s.call x).i = s.i := rfl
@[simp] theorem State.call_r (x : Word) : (s.call x).r = s.r := rfl
@[simp] theorem State.call_iff (x : Word) : (s.call x).iff = s.iff := rfl
@[simp] theorem State.call_mem (x : Word) : (s.call x).mem = (s.mem.write (s.sp - 1#16).toNat (hi8 s.pc)).write (s.sp - 1#16 - 1#16).toNat (lo8 s.pc) := rfl
@[simp] theorem State.call_status (x : Word) : (s.call x).status = s.status := rfl
@[simp] theorem State.call_stopReq (x : Word) : (s.call x).stopReq = s.stopReq := rfl
@[simp] theorem State.call_params (x : Word) : (s.call x).params = s.params := rfl
@[simp] theorem State.call_drawCount (x : Word) : (s.call x).drawCount = s.drawCount := rfl

@[simp] theorem State.ret_regs : (s.ret).regs = s.regs := rfl
@[simp] theorem State.ret_shadow : (s.ret).shadow = s.shadow := rfl
@[simp] theorem State.ret_pc : (s.ret).pc = joinBytes (s.mem.read (s.sp + 1#16).toNat) (s.mem.read s.sp.toNat) := rfl
@[simp] theorem State.ret_sp : (s.ret).sp = s.sp + 1#16 + 1#16 := rfl
@[simp] theorem State.ret_ix : (s.ret).ix = s.ix := rfl
@[simp] theorem State.ret_iy : (s.ret).iy = s.iy := rfl
@[simp] theorem State.ret_i : (s.ret).i = s.i := rfl
@[simp] theorem State.ret_r : (s.ret).r = s.r := rfl
@[simp] theorem State.ret_iff : (s.ret).iff = s.iff := rfl
@[simp] theorem State.ret_mem : (s.ret).mem = s.mem := rfl
@[simp] theorem State.ret_status : (s.ret).status = s.status := rfl
@[simp] theorem State.ret_stopReq : (s.ret).stopReq = s.stopReq := rfl
@[simp] theorem State.ret_params : (s.ret).params = s.params := rfl
@[simp] theorem State.ret_drawCount : (s.ret).drawCount = s.drawCount := rfl

@[simp] theorem State.halt_regs (reason : HaltReason) (len : Nat) : (s.halt reason len).regs = s.regs := rfl
@[simp] theorem State.halt_shadow (reason : HaltReason) (len : Nat) : (s.halt reason len).shadow = s.shadow := rfl
@[simp] theorem State.halt_pc (reason : HaltReason) (len : Nat) : (s.halt reason len).pc = haltPcValue s len := rfl
@[simp] theorem State.halt_sp (reason : HaltReason) (len : Nat) : (s.halt reason len).sp = s.sp := rfl
@[simp] theorem State.halt_ix (reason : HaltReason) (len : Nat) : (s.halt reason len).ix = s.ix := rfl
@[simp] theorem State.halt_iy (reason : HaltReason) (len : Nat) : (s.halt reason len).iy = s.iy := rfl
@[simp] theorem State.halt_i (reason : HaltReason) (len : Nat) : (s.halt reason len).i = s.i := rfl
@[simp] theorem State.halt_r (reason : HaltReason) (len : Nat) : (s.halt reason len).r = s.r := rfl
@[simp] theorem State.halt_iff (reason : HaltReason) (len : Nat) : (s.halt reason len).iff = s.iff := rfl
@[simp] theorem State.halt_mem (reason : HaltReason) (len : Nat) : (s.halt reason len).mem = s.mem := rfl
@[simp] theorem State.halt_status (reason : HaltReason) (len : Nat) : (s.halt reason len).status = .halted reason := rfl
@[simp] theorem State.halt_stopReq (reason : HaltReason) (len : Nat) : (s.halt reason len).stopReq = s.stopReq := rfl
@[simp] theorem State.halt_params (reason : HaltReason) (len : Nat) : (s.halt reason len).params = s.params := rfl
@[simp] theorem State.halt_drawCount (reason : HaltReason) (len : Nat) : (s.halt reason len).drawCount = s.drawCount := rfl

@[simp] theorem writeR_shadow (r : Operand8) (v : Byte) : (writeR r v s).shadow = s.shadow := by cases r <;> rfl
@[simp] theorem writeR_pc (r : Operand8) (v : Byte) : (writeR r v s).pc = s.pc := by cases r <;> rfl
@[simp] theorem writeR_sp (r : Operand8) (v : Byte) : (writeR r v s).sp = s.sp := by cases r <;> rfl
@[simp] theorem writeR_ix (r : Operand8) (v : Byte) : (writeR r v s).ix = s.ix := by cases r <;> rfl
@[simp] theorem writeR_iy (r : Operand8) (v : Byte) : (writeR r v s).iy = s.iy := by cases r <;> rfl
@[simp] theorem writeR_i (r : Operand8) (v : Byte) : (writeR r v s).i = s.i := by cases r <;> rfl
@[simp] theorem writeR_r (r : Operand8) (v : Byte) : (writeR r v s).r = s.r := by cases r <;> rfl
@[simp] theorem writeR_iff (r : Operand8) (v : Byte) : (writeR r v s).iff = s.iff := by cases r <;> rfl
@[simp] theorem writeR_status (r : Operand8) (v : Byte) : (writeR r v s).status = s.status := by cases r <;> rfl
@[simp] theorem writeR_stopReq (r : Operand8) (v : Byte) : (writeR r v s).stopReq = s.stopReq := by cases r <;> rfl
@[simp] theorem writeR_params (r : Operand8) (v : Byte) : (writeR r v s).params = s.params := by cases r <;> rfl
@[simp] theorem writeR_drawCount (r : Operand8) (v : Byte) : (writeR r v s).drawCount = s.drawCount := by cases r <;> rfl
@[simp] theorem writeR_regs_f (r : Operand8) (v : Byte) : (writeR r v s).regs.f = s.regs.f := by cases r <;> rfl

/-- The one operand form that stores is (HL) (30_encoding.md R76). -/
theorem writeR_mem (r : Operand8) (v : Byte) :
    (writeR r v s).mem = if r = .memHl then s.mem.write s.hl.toNat v else s.mem := by cases r <;> rfl

/-- A read of a register operand does not look at PC, SP, the status or the draw counter. -/
theorem readR_congr (t : State) (r : Operand8) (hr : s.regs = t.regs) (hm : s.mem = t.mem) : readR r s = readR r t := by
  cases r <;> simp [readR, State.readByte, State.hl, hr, hm]

@[simp] theorem readR_advance (r : Operand8) (len : Nat) : readR r (s.advance len) = readR r s :=
  readR_congr (s.advance len) s r rfl rfl

end Sys2Proof.Machine
end

