-- ==== Sys2Proof/Laws/Ops.lean ====
section
/-! SUPPORT. One lemma for each shared operation, saying once everything it does, as one record update or as what it keeps.
The provers cite these instead of unfolding the operation. -/

namespace Sys2Proof.Machine

/-- The halt writes the status, and PC by `HALT_PC` (60_exceptions.md R171). -/
theorem State.halt_eq (s : State) (reason : HaltReason) (len : Nat) :
    s.halt reason len = { s with pc := haltPcValue s len, status := .halted reason } := rfl

theorem haltPcValue_frozen (s : State) (len : Nat) (h : s.params.haltPc = .frozen) : haltPcValue s len = s.pc := by
  simp [haltPcValue, h]

theorem haltPcValue_advanced (s : State) (len : Nat) (h : s.params.haltPc = .advanced) :
    haltPcValue s len = s.pc + BitVec.ofNat 16 len := by
  simp [haltPcValue, h]

/-- `call(addr)`: SP down by two, the two Bytes of PC stored, PC replaced (41_control_flow.md R134). -/
theorem State.call_eq (s : State) (target : Word) :
    s.call target = { s with
      pc := target, sp := s.sp - 1#16 - 1#16,
      mem := (s.mem.write (s.sp - 1#16).toNat (hi8 s.pc)).write (s.sp - 1#16 - 1#16).toNat (lo8 s.pc) } := rfl

/-- `ret()`: SP up by two, PC from the two Bytes (41_control_flow.md R135). -/
theorem State.ret_eq (s : State) :
    s.ret = { s with
      pc := joinBytes (s.mem.read (s.sp + 1#16).toNat) (s.mem.read s.sp.toNat), sp := s.sp + 1#16 + 1#16 } := rfl

/-- AND writes A and F. -/
theorem logicAnd_eq (v : Byte) (s : State) :
    logicAnd v s = { s with regs := { s.regs with a := s.regs.a &&& v, f := andFlags (s.regs.a &&& v) s.regs.f } } := rfl

/-- OR and XOR write A and F and take one draw. -/
theorem logicOrXor_eq (res : Byte) (s : State) :
    logicOrXor res s = { s with
      regs := { s.regs with a := res, f := orxorFlags res (Config.drawPvLogic s.drawCount) s.regs.f },
      drawCount := s.drawCount + 1 } := rfl

/-- CP writes F and takes one draw. -/
theorem compareA_eq (v : Byte) (s : State) :
    compareA v s = { s with
      regs := { s.regs with f := cpFlags s.regs.a v (Config.drawPvCp s.drawCount) s.regs.f },
      drawCount := s.drawCount + 1 } := rfl

/-- A jump by d writes PC. -/
theorem jumpBy_eq (d : Byte) (s : State) : jumpBy d s = { s with pc := s.pc + sext16 d } := rfl

/-- JP cc writes PC, taken or not. -/
theorem jumpIf_eq (cc : Cond) (nn : Word) (s : State) :
    jumpIf cc nn s = { s with pc := if condHolds cc s.regs.f then nn else s.pc + 3#16 } := by
  by_cases h : condHolds cc s.regs.f <;> simp [jumpIf, State.advance, State.setPc, h]

/-- JR cc writes PC, taken or not. -/
theorem jumpByIf_eq (cc : RelCond) (d : Byte) (s : State) :
    jumpByIf cc d s =
      { s with pc := if condHolds cc.toCond s.regs.f then s.pc + 2#16 + sext16 d else s.pc + 2#16 } := by
  by_cases h : condHolds cc.toCond s.regs.f <;> simp [jumpByIf, jumpBy, State.advance, State.setPc, h]

/-- INC of an operand keeps everything but the operand, F and the draw counter. -/
theorem incrementR_keeps (r : Operand8) (s : State) :
    (incrementR r s).shadow = s.shadow ∧ (incrementR r s).pc = s.pc ∧ (incrementR r s).sp = s.sp ∧
    (incrementR r s).ix = s.ix ∧ (incrementR r s).iy = s.iy ∧ (incrementR r s).i = s.i ∧ (incrementR r s).r = s.r ∧
    (incrementR r s).iff = s.iff ∧ (incrementR r s).status = s.status ∧ (incrementR r s).stopReq = s.stopReq ∧
    (incrementR r s).params = s.params := by
  simp [incrementR]

/-- DEC of an operand keeps everything but the operand, F and the draw counter. -/
theorem decrementR_keeps (r : Operand8) (s : State) :
    (decrementR r s).shadow = s.shadow ∧ (decrementR r s).pc = s.pc ∧ (decrementR r s).sp = s.sp ∧
    (decrementR r s).ix = s.ix ∧ (decrementR r s).iy = s.iy ∧ (decrementR r s).i = s.i ∧ (decrementR r s).r = s.r ∧
    (decrementR r s).iff = s.iff ∧ (decrementR r s).status = s.status ∧ (decrementR r s).stopReq = s.stopReq ∧
    (decrementR r s).params = s.params := by
  simp [decrementR]

/-- Memory after INC of an operand (40_alu.md R110). -/
theorem incrementR_mem (r : Operand8) (s : State) :
    (incrementR r s).mem = if r = .memHl then s.mem.write s.hl.toNat (s.mem.read s.hl.toNat + 1#8) else s.mem := by
  cases r <;> simp [incrementR, writeR, readR, State.readByte]

/-- Memory after DEC of an operand (40_alu.md R111). -/
theorem decrementR_mem (r : Operand8) (s : State) :
    (decrementR r s).mem = if r = .memHl then s.mem.write s.hl.toNat (s.mem.read s.hl.toNat - 1#8) else s.mem := by
  cases r <;> simp [decrementR, writeR, readR, State.readByte]

/-- The step by the status it starts in (60_exceptions.md R164, R166). -/
theorem step_created (s : State) (h : s.status = .created) : step s = .refused .stepBeforeReset := by
  simp [step, loopStep, h]

theorem step_stop (s : State) (h : s.status = .running) (hs : s.stopReq = true) : step s = .next (stopRun s) := by
  simp [step, loopStep, h, hs]

theorem step_instruction (s : State) (h : s.status ≠ .created) (hs : ¬(s.status = .running ∧ s.stopReq = true)) :
    step s = stepInstruction s := by
  cases hst : s.status <;> simp_all [step, loopStep]

/-- What a step that answers can be: the stop at a boundary, or an instruction (60_exceptions.md R164). -/
theorem step_cases (s t : State) (h : step s = .next t) : s.status ≠ .created ∧
    ((s.status = .running ∧ s.stopReq = true ∧ t = stopRun s) ∨
     (¬(s.status = .running ∧ s.stopReq = true) ∧ stepInstruction s = .next t)) := by
  by_cases hc : s.status = .created
  · rw [step_created s hc] at h
    nomatch h
  · refine ⟨hc, ?_⟩
    by_cases hs : s.status = .running ∧ s.stopReq = true
    · rw [step_stop s hs.1 hs.2] at h
      injection h with h
      exact .inl ⟨hs.1, hs.2, h.symm⟩
    · exact .inr ⟨hs, (step_instruction s hc hs).symm.trans h⟩

/-- What the step hook's execution that answers can be: an instruction with the triple's tag's operands, or the Invalid halt
(60_exceptions.md R160, R163). -/
theorem executeTriple_cases (d : Decoded) (win : Window) (s t : State) (h : executeTriple d win s = .next t) :
    d.wf = true ∧ ((d.tag = .invalid ∧ t = haltInvalid win.b0 win.b1 s) ∨
      (d.tag ≠ .invalid ∧ ∃ i : Instr, assemble d.tag win = .ok i ∧ exec i s = .next t)) := by
  unfold executeTriple at h
  split at h
  case isFalse => nomatch h
  case isTrue hw =>
    refine ⟨hw, ?_⟩
    split at h
    case isTrue ht => injection h with h; exact .inl ⟨ht, h.symm⟩
    case isFalse ht =>
      split at h
      case h_1 i hi => exact .inr ⟨ht, i, hi, h⟩
      case h_2 => nomatch h

/-- A permitted host action has its effect (60_exceptions.md R166). -/
theorem hostAct_permitted (act : HostAction) (s : State) (h : permits s.status act = true) :
    hostAct act s = performAction act s := by
  rw [hostAct, if_pos h]

/-- A host action that the table does not list for the status is refused (60_exceptions.md R166). -/
theorem hostAct_notPermitted (act : HostAction) (s : State) (h : permits s.status act = false) :
    hostAct act s = .refused .actionNotPermitted := by
  rw [hostAct, h]
  rfl

@[simp] theorem hostReadIff_hostWriteIff (b : Bool) (s : State) : hostReadIff (hostWriteIff b s) = b := rfl

@[simp] theorem hostReadMem_hostWriteMem (a b : Nat) (v : Byte) (s : State) :
    hostReadMem b (hostWriteMem a v s) = if b = a ∧ a ≤ 0xFFFF then v else hostReadMem b s :=
  Memory.read_write _ _ _ _

/-- The Loop has ended: a further boundary does nothing (60_exceptions.md R164). -/
theorem runLoop_ended (fuel : Nat) (s : State) (h : s.status ≠ .running) : runLoop fuel s = .next s := by
  cases fuel with
  | zero => rfl
  | succ n => rw [runLoop, if_neg h]

@[simp] theorem mapNext_next (f : State → State) (s : State) : mapNext f (.next s) = .next (f s) := rfl

end Sys2Proof.Machine
end

