-- ==== Sys2Proof/Laws/PerInstr.lean ====
section
/-! SUPPORT. One lemma for each instruction about its encoding: the Decoder, run through the fields x, z, y on the opcode Byte
that the encoder writes, gives the instruction's triple, whatever Bytes follow (30_encoding.md R85). -/

namespace Sys2Proof.Laws.OpcodeTag

/-- The Decoder's triple is fixed by the table's tag for the opcode Byte and by whether it is a prefix (30_encoding.md R85). -/
theorem decode_triple (i : Instr) (hp : isPrefixByte i.opcode = i.usedPrefix) (ht : unprefixedTag i.opcode = i.tag)
    (b1 b2 b3 : Byte) : decode { b0 := i.opcode, b1 := b1, b2 := b2, b3 := b3 } = i.triple := by
  cases hu : i.usedPrefix with
  | false => simp [decode, hp, ht, hu, Instr.triple, Instr.len]
  | true =>
    have htag : i.tag = .invalid := by simpa [Instr.usedPrefix] using hu
    simp [decode, hp, hu, Instr.triple, Instr.len, htag, Tag.len]

/-- The Decoder's triple for the instruction's opcode Byte depends on that Byte alone (30_encoding.md R70, R85). -/
def Statement (i : Instr) : Prop :=
  ∀ b1 b2 b3 : Byte, decode { b0 := i.opcode, b1 := b1, b2 := b2, b3 := b3 } = i.triple

theorem nop : Statement .nop :=
  decode_triple _ rfl (show unprefixedTag 0x00#8 = .nop from rfl)
theorem ldBcNn (nn : Word) : Statement (.ldBcNn nn) :=
  decode_triple _ rfl (show unprefixedTag 0x01#8 = .ldRpNn .bc from rfl)
theorem ldMemBcA : Statement .ldMemBcA :=
  decode_triple _ rfl (show unprefixedTag 0x02#8 = .ldMemBcA from rfl)
theorem incBc : Statement .incBc :=
  decode_triple _ rfl (show unprefixedTag 0x03#8 = .incRp .bc from rfl)
theorem incB : Statement .incB :=
  decode_triple _ rfl (show unprefixedTag 0x04#8 = .incR .b from rfl)
theorem decB : Statement .decB :=
  decode_triple _ rfl (show unprefixedTag 0x05#8 = .decR .b from rfl)
theorem ldBN (n : Byte) : Statement (.ldBN n) :=
  decode_triple _ rfl (show unprefixedTag 0x06#8 = .ldRN .b from rfl)
theorem rlca : Statement .rlca :=
  decode_triple _ rfl (show unprefixedTag 0x07#8 = .rlca from rfl)
theorem exAfAf : Statement .exAfAf :=
  decode_triple _ rfl (show unprefixedTag 0x08#8 = .exAfAf from rfl)
theorem addHlBc : Statement .addHlBc :=
  decode_triple _ rfl (show unprefixedTag 0x09#8 = .addHlRp .bc from rfl)
theorem ldAMemBc : Statement .ldAMemBc :=
  decode_triple _ rfl (show unprefixedTag 0x0A#8 = .ldAMemBc from rfl)
theorem decBc : Statement .decBc :=
  decode_triple _ rfl (show unprefixedTag 0x0B#8 = .decRp .bc from rfl)
theorem incC : Statement .incC :=
  decode_triple _ rfl (show unprefixedTag 0x0C#8 = .incR .c from rfl)
theorem decC : Statement .decC :=
  decode_triple _ rfl (show unprefixedTag 0x0D#8 = .decR .c from rfl)
theorem ldCN (n : Byte) : Statement (.ldCN n) :=
  decode_triple _ rfl (show unprefixedTag 0x0E#8 = .ldRN .c from rfl)
theorem rrca : Statement .rrca :=
  decode_triple _ rfl (show unprefixedTag 0x0F#8 = .rrca from rfl)
theorem djnzD (d : Byte) : Statement (.djnzD d) :=
  decode_triple _ rfl (show unprefixedTag 0x10#8 = .djnzD from rfl)
theorem ldDeNn (nn : Word) : Statement (.ldDeNn nn) :=
  decode_triple _ rfl (show unprefixedTag 0x11#8 = .ldRpNn .de from rfl)
theorem ldMemDeA : Statement .ldMemDeA :=
  decode_triple _ rfl (show unprefixedTag 0x12#8 = .ldMemDeA from rfl)
theorem incDe : Statement .incDe :=
  decode_triple _ rfl (show unprefixedTag 0x13#8 = .incRp .de from rfl)
theorem incD : Statement .incD :=
  decode_triple _ rfl (show unprefixedTag 0x14#8 = .incR .d from rfl)
theorem decD : Statement .decD :=
  decode_triple _ rfl (show unprefixedTag 0x15#8 = .decR .d from rfl)
theorem ldDN (n : Byte) : Statement (.ldDN n) :=
  decode_triple _ rfl (show unprefixedTag 0x16#8 = .ldRN .d from rfl)
theorem rla : Statement .rla :=
  decode_triple _ rfl (show unprefixedTag 0x17#8 = .rla from rfl)
theorem jrD (d : Byte) : Statement (.jrD d) :=
  decode_triple _ rfl (show unprefixedTag 0x18#8 = .jr from rfl)
theorem addHlDe : Statement .addHlDe :=
  decode_triple _ rfl (show unprefixedTag 0x19#8 = .addHlRp .de from rfl)
theorem ldAMemDe : Statement .ldAMemDe :=
  decode_triple _ rfl (show unprefixedTag 0x1A#8 = .ldAMemDe from rfl)
theorem decDe : Statement .decDe :=
  decode_triple _ rfl (show unprefixedTag 0x1B#8 = .decRp .de from rfl)
theorem incE : Statement .incE :=
  decode_triple _ rfl (show unprefixedTag 0x1C#8 = .incR .e from rfl)
theorem decE : Statement .decE :=
  decode_triple _ rfl (show unprefixedTag 0x1D#8 = .decR .e from rfl)
theorem ldEN (n : Byte) : Statement (.ldEN n) :=
  decode_triple _ rfl (show unprefixedTag 0x1E#8 = .ldRN .e from rfl)
theorem rra : Statement .rra :=
  decode_triple _ rfl (show unprefixedTag 0x1F#8 = .rra from rfl)
theorem jrNzD (d : Byte) : Statement (.jrNzD d) :=
  decode_triple _ rfl (show unprefixedTag 0x20#8 = .jrCc .nz from rfl)
theorem ldHlNn (nn : Word) : Statement (.ldHlNn nn) :=
  decode_triple _ rfl (show unprefixedTag 0x21#8 = .ldRpNn .hl from rfl)
theorem ldMemNnHl (nn : Word) : Statement (.ldMemNnHl nn) :=
  decode_triple _ rfl (show unprefixedTag 0x22#8 = .ldMemNnHl from rfl)
theorem incHl : Statement .incHl :=
  decode_triple _ rfl (show unprefixedTag 0x23#8 = .incRp .hl from rfl)
theorem incH : Statement .incH :=
  decode_triple _ rfl (show unprefixedTag 0x24#8 = .incR .h from rfl)
theorem decH : Statement .decH :=
  decode_triple _ rfl (show unprefixedTag 0x25#8 = .decR .h from rfl)
theorem ldHN (n : Byte) : Statement (.ldHN n) :=
  decode_triple _ rfl (show unprefixedTag 0x26#8 = .ldRN .h from rfl)
theorem daa : Statement .daa :=
  decode_triple _ rfl (show unprefixedTag 0x27#8 = .daa from rfl)
theorem jrZD (d : Byte) : Statement (.jrZD d) :=
  decode_triple _ rfl (show unprefixedTag 0x28#8 = .jrCc .z from rfl)
theorem addHlHl : Statement .addHlHl :=
  decode_triple _ rfl (show unprefixedTag 0x29#8 = .addHlRp .hl from rfl)
theorem ldHlMemNn (nn : Word) : Statement (.ldHlMemNn nn) :=
  decode_triple _ rfl (show unprefixedTag 0x2A#8 = .ldHlMemNn from rfl)
theorem decHl : Statement .decHl :=
  decode_triple _ rfl (show unprefixedTag 0x2B#8 = .decRp .hl from rfl)
theorem incL : Statement .incL :=
  decode_triple _ rfl (show unprefixedTag 0x2C#8 = .incR .l from rfl)
theorem decL : Statement .decL :=
  decode_triple _ rfl (show unprefixedTag 0x2D#8 = .decR .l from rfl)
theorem ldLN (n : Byte) : Statement (.ldLN n) :=
  decode_triple _ rfl (show unprefixedTag 0x2E#8 = .ldRN .l from rfl)
theorem cpl : Statement .cpl :=
  decode_triple _ rfl (show unprefixedTag 0x2F#8 = .cpl from rfl)
theorem jrNcD (d : Byte) : Statement (.jrNcD d) :=
  decode_triple _ rfl (show unprefixedTag 0x30#8 = .jrCc .nc from rfl)
theorem ldSpNn (nn : Word) : Statement (.ldSpNn nn) :=
  decode_triple _ rfl (show unprefixedTag 0x31#8 = .ldRpNn .sp from rfl)
theorem ldMemNnA (nn : Word) : Statement (.ldMemNnA nn) :=
  decode_triple _ rfl (show unprefixedTag 0x32#8 = .ldMemNnA from rfl)
theorem incSp : Statement .incSp :=
  decode_triple _ rfl (show unprefixedTag 0x33#8 = .incRp .sp from rfl)
theorem incMemHl : Statement .incMemHl :=
  decode_triple _ rfl (show unprefixedTag 0x34#8 = .incR .memHl from rfl)
theorem decMemHl : Statement .decMemHl :=
  decode_triple _ rfl (show unprefixedTag 0x35#8 = .decR .memHl from rfl)
theorem ldMemHlN (n : Byte) : Statement (.ldMemHlN n) :=
  decode_triple _ rfl (show unprefixedTag 0x36#8 = .ldRN .memHl from rfl)
theorem scf : Statement .scf :=
  decode_triple _ rfl (show unprefixedTag 0x37#8 = .scf from rfl)
theorem jrCD (d : Byte) : Statement (.jrCD d) :=
  decode_triple _ rfl (show unprefixedTag 0x38#8 = .jrCc .c from rfl)
theorem addHlSp : Statement .addHlSp :=
  decode_triple _ rfl (show unprefixedTag 0x39#8 = .addHlRp .sp from rfl)
theorem ldAMemNn (nn : Word) : Statement (.ldAMemNn nn) :=
  decode_triple _ rfl (show unprefixedTag 0x3A#8 = .ldAMemNn from rfl)
theorem decSp : Statement .decSp :=
  decode_triple _ rfl (show unprefixedTag 0x3B#8 = .decRp .sp from rfl)
theorem incA : Statement .incA :=
  decode_triple _ rfl (show unprefixedTag 0x3C#8 = .incR .a from rfl)
theorem decA : Statement .decA :=
  decode_triple _ rfl (show unprefixedTag 0x3D#8 = .decR .a from rfl)
theorem ldAN (n : Byte) : Statement (.ldAN n) :=
  decode_triple _ rfl (show unprefixedTag 0x3E#8 = .ldRN .a from rfl)
theorem ccf : Statement .ccf :=
  decode_triple _ rfl (show unprefixedTag 0x3F#8 = .ccf from rfl)
theorem ldBB : Statement .ldBB :=
  decode_triple _ rfl (show unprefixedTag 0x40#8 = .ldRR .b .b from rfl)
theorem ldBC : Statement .ldBC :=
  decode_triple _ rfl (show unprefixedTag 0x41#8 = .ldRR .b .c from rfl)
theorem ldBD : Statement .ldBD :=
  decode_triple _ rfl (show unprefixedTag 0x42#8 = .ldRR .b .d from rfl)
theorem ldBE : Statement .ldBE :=
  decode_triple _ rfl (show unprefixedTag 0x43#8 = .ldRR .b .e from rfl)
theorem ldBH : Statement .ldBH :=
  decode_triple _ rfl (show unprefixedTag 0x44#8 = .ldRR .b .h from rfl)
theorem ldBL : Statement .ldBL :=
  decode_triple _ rfl (show unprefixedTag 0x45#8 = .ldRR .b .l from rfl)
theorem ldBMemHl : Statement .ldBMemHl :=
  decode_triple _ rfl (show unprefixedTag 0x46#8 = .ldRR .b .memHl from rfl)
theorem ldBA : Statement .ldBA :=
  decode_triple _ rfl (show unprefixedTag 0x47#8 = .ldRR .b .a from rfl)
theorem ldCB : Statement .ldCB :=
  decode_triple _ rfl (show unprefixedTag 0x48#8 = .ldRR .c .b from rfl)
theorem ldCC : Statement .ldCC :=
  decode_triple _ rfl (show unprefixedTag 0x49#8 = .ldRR .c .c from rfl)
theorem ldCD : Statement .ldCD :=
  decode_triple _ rfl (show unprefixedTag 0x4A#8 = .ldRR .c .d from rfl)
theorem ldCE : Statement .ldCE :=
  decode_triple _ rfl (show unprefixedTag 0x4B#8 = .ldRR .c .e from rfl)
theorem ldCH : Statement .ldCH :=
  decode_triple _ rfl (show unprefixedTag 0x4C#8 = .ldRR .c .h from rfl)
theorem ldCL : Statement .ldCL :=
  decode_triple _ rfl (show unprefixedTag 0x4D#8 = .ldRR .c .l from rfl)
theorem ldCMemHl : Statement .ldCMemHl :=
  decode_triple _ rfl (show unprefixedTag 0x4E#8 = .ldRR .c .memHl from rfl)
theorem ldCA : Statement .ldCA :=
  decode_triple _ rfl (show unprefixedTag 0x4F#8 = .ldRR .c .a from rfl)
theorem ldDB : Statement .ldDB :=
  decode_triple _ rfl (show unprefixedTag 0x50#8 = .ldRR .d .b from rfl)
theorem ldDC : Statement .ldDC :=
  decode_triple _ rfl (show unprefixedTag 0x51#8 = .ldRR .d .c from rfl)
theorem ldDD : Statement .ldDD :=
  decode_triple _ rfl (show unprefixedTag 0x52#8 = .ldRR .d .d from rfl)
theorem ldDE : Statement .ldDE :=
  decode_triple _ rfl (show unprefixedTag 0x53#8 = .ldRR .d .e from rfl)
theorem ldDH : Statement .ldDH :=
  decode_triple _ rfl (show unprefixedTag 0x54#8 = .ldRR .d .h from rfl)
theorem ldDL : Statement .ldDL :=
  decode_triple _ rfl (show unprefixedTag 0x55#8 = .ldRR .d .l from rfl)
theorem ldDMemHl : Statement .ldDMemHl :=
  decode_triple _ rfl (show unprefixedTag 0x56#8 = .ldRR .d .memHl from rfl)
theorem ldDA : Statement .ldDA :=
  decode_triple _ rfl (show unprefixedTag 0x57#8 = .ldRR .d .a from rfl)
theorem ldEB : Statement .ldEB :=
  decode_triple _ rfl (show unprefixedTag 0x58#8 = .ldRR .e .b from rfl)
theorem ldEC : Statement .ldEC :=
  decode_triple _ rfl (show unprefixedTag 0x59#8 = .ldRR .e .c from rfl)
theorem ldED : Statement .ldED :=
  decode_triple _ rfl (show unprefixedTag 0x5A#8 = .ldRR .e .d from rfl)
theorem ldEE : Statement .ldEE :=
  decode_triple _ rfl (show unprefixedTag 0x5B#8 = .ldRR .e .e from rfl)
theorem ldEH : Statement .ldEH :=
  decode_triple _ rfl (show unprefixedTag 0x5C#8 = .ldRR .e .h from rfl)
theorem ldEL : Statement .ldEL :=
  decode_triple _ rfl (show unprefixedTag 0x5D#8 = .ldRR .e .l from rfl)
theorem ldEMemHl : Statement .ldEMemHl :=
  decode_triple _ rfl (show unprefixedTag 0x5E#8 = .ldRR .e .memHl from rfl)
theorem ldEA : Statement .ldEA :=
  decode_triple _ rfl (show unprefixedTag 0x5F#8 = .ldRR .e .a from rfl)
theorem ldHB : Statement .ldHB :=
  decode_triple _ rfl (show unprefixedTag 0x60#8 = .ldRR .h .b from rfl)
theorem ldHC : Statement .ldHC :=
  decode_triple _ rfl (show unprefixedTag 0x61#8 = .ldRR .h .c from rfl)
theorem ldHD : Statement .ldHD :=
  decode_triple _ rfl (show unprefixedTag 0x62#8 = .ldRR .h .d from rfl)
theorem ldHE : Statement .ldHE :=
  decode_triple _ rfl (show unprefixedTag 0x63#8 = .ldRR .h .e from rfl)
theorem ldHH : Statement .ldHH :=
  decode_triple _ rfl (show unprefixedTag 0x64#8 = .ldRR .h .h from rfl)
theorem ldHL : Statement .ldHL :=
  decode_triple _ rfl (show unprefixedTag 0x65#8 = .ldRR .h .l from rfl)
theorem ldHMemHl : Statement .ldHMemHl :=
  decode_triple _ rfl (show unprefixedTag 0x66#8 = .ldRR .h .memHl from rfl)
theorem ldHA : Statement .ldHA :=
  decode_triple _ rfl (show unprefixedTag 0x67#8 = .ldRR .h .a from rfl)
theorem ldLB : Statement .ldLB :=
  decode_triple _ rfl (show unprefixedTag 0x68#8 = .ldRR .l .b from rfl)
theorem ldLC : Statement .ldLC :=
  decode_triple _ rfl (show unprefixedTag 0x69#8 = .ldRR .l .c from rfl)
theorem ldLD : Statement .ldLD :=
  decode_triple _ rfl (show unprefixedTag 0x6A#8 = .ldRR .l .d from rfl)
theorem ldLE : Statement .ldLE :=
  decode_triple _ rfl (show unprefixedTag 0x6B#8 = .ldRR .l .e from rfl)
theorem ldLH : Statement .ldLH :=
  decode_triple _ rfl (show unprefixedTag 0x6C#8 = .ldRR .l .h from rfl)
theorem ldLL : Statement .ldLL :=
  decode_triple _ rfl (show unprefixedTag 0x6D#8 = .ldRR .l .l from rfl)
theorem ldLMemHl : Statement .ldLMemHl :=
  decode_triple _ rfl (show unprefixedTag 0x6E#8 = .ldRR .l .memHl from rfl)
theorem ldLA : Statement .ldLA :=
  decode_triple _ rfl (show unprefixedTag 0x6F#8 = .ldRR .l .a from rfl)
theorem ldMemHlB : Statement .ldMemHlB :=
  decode_triple _ rfl (show unprefixedTag 0x70#8 = .ldRR .memHl .b from rfl)
theorem ldMemHlC : Statement .ldMemHlC :=
  decode_triple _ rfl (show unprefixedTag 0x71#8 = .ldRR .memHl .c from rfl)
theorem ldMemHlD : Statement .ldMemHlD :=
  decode_triple _ rfl (show unprefixedTag 0x72#8 = .ldRR .memHl .d from rfl)
theorem ldMemHlE : Statement .ldMemHlE :=
  decode_triple _ rfl (show unprefixedTag 0x73#8 = .ldRR .memHl .e from rfl)
theorem ldMemHlH : Statement .ldMemHlH :=
  decode_triple _ rfl (show unprefixedTag 0x74#8 = .ldRR .memHl .h from rfl)
theorem ldMemHlL : Statement .ldMemHlL :=
  decode_triple _ rfl (show unprefixedTag 0x75#8 = .ldRR .memHl .l from rfl)
theorem halt : Statement .halt :=
  decode_triple _ rfl (show unprefixedTag 0x76#8 = .halt from rfl)
theorem ldMemHlA : Statement .ldMemHlA :=
  decode_triple _ rfl (show unprefixedTag 0x77#8 = .ldRR .memHl .a from rfl)
theorem ldAB : Statement .ldAB :=
  decode_triple _ rfl (show unprefixedTag 0x78#8 = .ldRR .a .b from rfl)
theorem ldAC : Statement .ldAC :=
  decode_triple _ rfl (show unprefixedTag 0x79#8 = .ldRR .a .c from rfl)
theorem ldAD : Statement .ldAD :=
  decode_triple _ rfl (show unprefixedTag 0x7A#8 = .ldRR .a .d from rfl)
theorem ldAE : Statement .ldAE :=
  decode_triple _ rfl (show unprefixedTag 0x7B#8 = .ldRR .a .e from rfl)
theorem ldAH : Statement .ldAH :=
  decode_triple _ rfl (show unprefixedTag 0x7C#8 = .ldRR .a .h from rfl)
theorem ldAL : Statement .ldAL :=
  decode_triple _ rfl (show unprefixedTag 0x7D#8 = .ldRR .a .l from rfl)
theorem ldAMemHl : Statement .ldAMemHl :=
  decode_triple _ rfl (show unprefixedTag 0x7E#8 = .ldRR .a .memHl from rfl)
theorem ldAA : Statement .ldAA :=
  decode_triple _ rfl (show unprefixedTag 0x7F#8 = .ldRR .a .a from rfl)
theorem addAB : Statement .addAB :=
  decode_triple _ rfl (show unprefixedTag 0x80#8 = .addAR .b from rfl)
theorem addAC : Statement .addAC :=
  decode_triple _ rfl (show unprefixedTag 0x81#8 = .addAR .c from rfl)
theorem addAD : Statement .addAD :=
  decode_triple _ rfl (show unprefixedTag 0x82#8 = .addAR .d from rfl)
theorem addAE : Statement .addAE :=
  decode_triple _ rfl (show unprefixedTag 0x83#8 = .addAR .e from rfl)
theorem addAH : Statement .addAH :=
  decode_triple _ rfl (show unprefixedTag 0x84#8 = .addAR .h from rfl)
theorem addAL : Statement .addAL :=
  decode_triple _ rfl (show unprefixedTag 0x85#8 = .addAR .l from rfl)
theorem addAMemHl : Statement .addAMemHl :=
  decode_triple _ rfl (show unprefixedTag 0x86#8 = .addAR .memHl from rfl)
theorem addAA : Statement .addAA :=
  decode_triple _ rfl (show unprefixedTag 0x87#8 = .addAR .a from rfl)
theorem adcAB : Statement .adcAB :=
  decode_triple _ rfl (show unprefixedTag 0x88#8 = .adcAR .b from rfl)
theorem adcAC : Statement .adcAC :=
  decode_triple _ rfl (show unprefixedTag 0x89#8 = .adcAR .c from rfl)
theorem adcAD : Statement .adcAD :=
  decode_triple _ rfl (show unprefixedTag 0x8A#8 = .adcAR .d from rfl)
theorem adcAE : Statement .adcAE :=
  decode_triple _ rfl (show unprefixedTag 0x8B#8 = .adcAR .e from rfl)
theorem adcAH : Statement .adcAH :=
  decode_triple _ rfl (show unprefixedTag 0x8C#8 = .adcAR .h from rfl)
theorem adcAL : Statement .adcAL :=
  decode_triple _ rfl (show unprefixedTag 0x8D#8 = .adcAR .l from rfl)
theorem adcAMemHl : Statement .adcAMemHl :=
  decode_triple _ rfl (show unprefixedTag 0x8E#8 = .adcAR .memHl from rfl)
theorem adcAA : Statement .adcAA :=
  decode_triple _ rfl (show unprefixedTag 0x8F#8 = .adcAR .a from rfl)
theorem subB : Statement .subB :=
  decode_triple _ rfl (show unprefixedTag 0x90#8 = .subR .b from rfl)
theorem subC : Statement .subC :=
  decode_triple _ rfl (show unprefixedTag 0x91#8 = .subR .c from rfl)
theorem subD : Statement .subD :=
  decode_triple _ rfl (show unprefixedTag 0x92#8 = .subR .d from rfl)
theorem subE : Statement .subE :=
  decode_triple _ rfl (show unprefixedTag 0x93#8 = .subR .e from rfl)
theorem subH : Statement .subH :=
  decode_triple _ rfl (show unprefixedTag 0x94#8 = .subR .h from rfl)
theorem subL : Statement .subL :=
  decode_triple _ rfl (show unprefixedTag 0x95#8 = .subR .l from rfl)
theorem subMemHl : Statement .subMemHl :=
  decode_triple _ rfl (show unprefixedTag 0x96#8 = .subR .memHl from rfl)
theorem subA : Statement .subA :=
  decode_triple _ rfl (show unprefixedTag 0x97#8 = .subR .a from rfl)
theorem sbcAB : Statement .sbcAB :=
  decode_triple _ rfl (show unprefixedTag 0x98#8 = .sbcAR .b from rfl)
theorem sbcAC : Statement .sbcAC :=
  decode_triple _ rfl (show unprefixedTag 0x99#8 = .sbcAR .c from rfl)
theorem sbcAD : Statement .sbcAD :=
  decode_triple _ rfl (show unprefixedTag 0x9A#8 = .sbcAR .d from rfl)
theorem sbcAE : Statement .sbcAE :=
  decode_triple _ rfl (show unprefixedTag 0x9B#8 = .sbcAR .e from rfl)
theorem sbcAH : Statement .sbcAH :=
  decode_triple _ rfl (show unprefixedTag 0x9C#8 = .sbcAR .h from rfl)
theorem sbcAL : Statement .sbcAL :=
  decode_triple _ rfl (show unprefixedTag 0x9D#8 = .sbcAR .l from rfl)
theorem sbcAMemHl : Statement .sbcAMemHl :=
  decode_triple _ rfl (show unprefixedTag 0x9E#8 = .sbcAR .memHl from rfl)
theorem sbcAA : Statement .sbcAA :=
  decode_triple _ rfl (show unprefixedTag 0x9F#8 = .sbcAR .a from rfl)
theorem andB : Statement .andB :=
  decode_triple _ rfl (show unprefixedTag 0xA0#8 = .andR .b from rfl)
theorem andC : Statement .andC :=
  decode_triple _ rfl (show unprefixedTag 0xA1#8 = .andR .c from rfl)
theorem andD : Statement .andD :=
  decode_triple _ rfl (show unprefixedTag 0xA2#8 = .andR .d from rfl)
theorem andE : Statement .andE :=
  decode_triple _ rfl (show unprefixedTag 0xA3#8 = .andR .e from rfl)
theorem andH : Statement .andH :=
  decode_triple _ rfl (show unprefixedTag 0xA4#8 = .andR .h from rfl)
theorem andL : Statement .andL :=
  decode_triple _ rfl (show unprefixedTag 0xA5#8 = .andR .l from rfl)
theorem andMemHl : Statement .andMemHl :=
  decode_triple _ rfl (show unprefixedTag 0xA6#8 = .andR .memHl from rfl)
theorem andA : Statement .andA :=
  decode_triple _ rfl (show unprefixedTag 0xA7#8 = .andR .a from rfl)
theorem xorB : Statement .xorB :=
  decode_triple _ rfl (show unprefixedTag 0xA8#8 = .xorR .b from rfl)
theorem xorC : Statement .xorC :=
  decode_triple _ rfl (show unprefixedTag 0xA9#8 = .xorR .c from rfl)
theorem xorD : Statement .xorD :=
  decode_triple _ rfl (show unprefixedTag 0xAA#8 = .xorR .d from rfl)
theorem xorE : Statement .xorE :=
  decode_triple _ rfl (show unprefixedTag 0xAB#8 = .xorR .e from rfl)
theorem xorH : Statement .xorH :=
  decode_triple _ rfl (show unprefixedTag 0xAC#8 = .xorR .h from rfl)
theorem xorL : Statement .xorL :=
  decode_triple _ rfl (show unprefixedTag 0xAD#8 = .xorR .l from rfl)
theorem xorMemHl : Statement .xorMemHl :=
  decode_triple _ rfl (show unprefixedTag 0xAE#8 = .xorR .memHl from rfl)
theorem xorA : Statement .xorA :=
  decode_triple _ rfl (show unprefixedTag 0xAF#8 = .xorR .a from rfl)
theorem orB : Statement .orB :=
  decode_triple _ rfl (show unprefixedTag 0xB0#8 = .orR .b from rfl)
theorem orC : Statement .orC :=
  decode_triple _ rfl (show unprefixedTag 0xB1#8 = .orR .c from rfl)
theorem orD : Statement .orD :=
  decode_triple _ rfl (show unprefixedTag 0xB2#8 = .orR .d from rfl)
theorem orE : Statement .orE :=
  decode_triple _ rfl (show unprefixedTag 0xB3#8 = .orR .e from rfl)
theorem orH : Statement .orH :=
  decode_triple _ rfl (show unprefixedTag 0xB4#8 = .orR .h from rfl)
theorem orL : Statement .orL :=
  decode_triple _ rfl (show unprefixedTag 0xB5#8 = .orR .l from rfl)
theorem orMemHl : Statement .orMemHl :=
  decode_triple _ rfl (show unprefixedTag 0xB6#8 = .orR .memHl from rfl)
theorem orA : Statement .orA :=
  decode_triple _ rfl (show unprefixedTag 0xB7#8 = .orR .a from rfl)
theorem cpB : Statement .cpB :=
  decode_triple _ rfl (show unprefixedTag 0xB8#8 = .cpR .b from rfl)
theorem cpC : Statement .cpC :=
  decode_triple _ rfl (show unprefixedTag 0xB9#8 = .cpR .c from rfl)
theorem cpD : Statement .cpD :=
  decode_triple _ rfl (show unprefixedTag 0xBA#8 = .cpR .d from rfl)
theorem cpE : Statement .cpE :=
  decode_triple _ rfl (show unprefixedTag 0xBB#8 = .cpR .e from rfl)
theorem cpH : Statement .cpH :=
  decode_triple _ rfl (show unprefixedTag 0xBC#8 = .cpR .h from rfl)
theorem cpL : Statement .cpL :=
  decode_triple _ rfl (show unprefixedTag 0xBD#8 = .cpR .l from rfl)
theorem cpMemHl : Statement .cpMemHl :=
  decode_triple _ rfl (show unprefixedTag 0xBE#8 = .cpR .memHl from rfl)
theorem cpA : Statement .cpA :=
  decode_triple _ rfl (show unprefixedTag 0xBF#8 = .cpR .a from rfl)
theorem retNz : Statement .retNz :=
  decode_triple _ rfl (show unprefixedTag 0xC0#8 = .retCc .nz from rfl)
theorem popBc : Statement .popBc :=
  decode_triple _ rfl (show unprefixedTag 0xC1#8 = .popRp2 .bc from rfl)
theorem jpNzNn (nn : Word) : Statement (.jpNzNn nn) :=
  decode_triple _ rfl (show unprefixedTag 0xC2#8 = .jpCc .nz from rfl)
theorem jpNn (nn : Word) : Statement (.jpNn nn) :=
  decode_triple _ rfl (show unprefixedTag 0xC3#8 = .jp from rfl)
theorem callNzNn (nn : Word) : Statement (.callNzNn nn) :=
  decode_triple _ rfl (show unprefixedTag 0xC4#8 = .callCcNn .nz from rfl)
theorem pushBc : Statement .pushBc :=
  decode_triple _ rfl (show unprefixedTag 0xC5#8 = .pushRp2 .bc from rfl)
theorem addAN (n : Byte) : Statement (.addAN n) :=
  decode_triple _ rfl (show unprefixedTag 0xC6#8 = .addAN from rfl)
theorem rst00 : Statement .rst00 :=
  decode_triple _ rfl (show unprefixedTag 0xC7#8 = .rst 0#3 from rfl)
theorem retZ : Statement .retZ :=
  decode_triple _ rfl (show unprefixedTag 0xC8#8 = .retCc .z from rfl)
theorem ret : Statement .ret :=
  decode_triple _ rfl (show unprefixedTag 0xC9#8 = .ret from rfl)
theorem jpZNn (nn : Word) : Statement (.jpZNn nn) :=
  decode_triple _ rfl (show unprefixedTag 0xCA#8 = .jpCc .z from rfl)
theorem prefixCb (second : Byte) : Statement (.prefixCb second) :=
  decode_triple _ rfl (show unprefixedTag 0xCB#8 = .invalid from rfl)
theorem callZNn (nn : Word) : Statement (.callZNn nn) :=
  decode_triple _ rfl (show unprefixedTag 0xCC#8 = .callCcNn .z from rfl)
theorem callNn (nn : Word) : Statement (.callNn nn) :=
  decode_triple _ rfl (show unprefixedTag 0xCD#8 = .call from rfl)
theorem adcAN (n : Byte) : Statement (.adcAN n) :=
  decode_triple _ rfl (show unprefixedTag 0xCE#8 = .adcAN from rfl)
theorem rst08 : Statement .rst08 :=
  decode_triple _ rfl (show unprefixedTag 0xCF#8 = .rst 1#3 from rfl)
theorem retNc : Statement .retNc :=
  decode_triple _ rfl (show unprefixedTag 0xD0#8 = .retCc .nc from rfl)
theorem popDe : Statement .popDe :=
  decode_triple _ rfl (show unprefixedTag 0xD1#8 = .popRp2 .de from rfl)
theorem jpNcNn (nn : Word) : Statement (.jpNcNn nn) :=
  decode_triple _ rfl (show unprefixedTag 0xD2#8 = .jpCc .nc from rfl)
theorem outMemNA (n : Byte) : Statement (.outMemNA n) :=
  decode_triple _ rfl (show unprefixedTag 0xD3#8 = .outMemNA from rfl)
theorem callNcNn (nn : Word) : Statement (.callNcNn nn) :=
  decode_triple _ rfl (show unprefixedTag 0xD4#8 = .callCcNn .nc from rfl)
theorem pushDe : Statement .pushDe :=
  decode_triple _ rfl (show unprefixedTag 0xD5#8 = .pushRp2 .de from rfl)
theorem subN (n : Byte) : Statement (.subN n) :=
  decode_triple _ rfl (show unprefixedTag 0xD6#8 = .subN from rfl)
theorem rst10 : Statement .rst10 :=
  decode_triple _ rfl (show unprefixedTag 0xD7#8 = .rst 2#3 from rfl)
theorem retC : Statement .retC :=
  decode_triple _ rfl (show unprefixedTag 0xD8#8 = .retCc .c from rfl)
theorem exx : Statement .exx :=
  decode_triple _ rfl (show unprefixedTag 0xD9#8 = .exx from rfl)
theorem jpCNn (nn : Word) : Statement (.jpCNn nn) :=
  decode_triple _ rfl (show unprefixedTag 0xDA#8 = .jpCc .c from rfl)
theorem inAMemN (n : Byte) : Statement (.inAMemN n) :=
  decode_triple _ rfl (show unprefixedTag 0xDB#8 = .inAMemN from rfl)
theorem callCNn (nn : Word) : Statement (.callCNn nn) :=
  decode_triple _ rfl (show unprefixedTag 0xDC#8 = .callCcNn .c from rfl)
theorem prefixDd (second : Byte) : Statement (.prefixDd second) :=
  decode_triple _ rfl (show unprefixedTag 0xDD#8 = .invalid from rfl)
theorem sbcAN (n : Byte) : Statement (.sbcAN n) :=
  decode_triple _ rfl (show unprefixedTag 0xDE#8 = .sbcAN from rfl)
theorem rst18 : Statement .rst18 :=
  decode_triple _ rfl (show unprefixedTag 0xDF#8 = .rst 3#3 from rfl)
theorem retPo : Statement .retPo :=
  decode_triple _ rfl (show unprefixedTag 0xE0#8 = .retCc .po from rfl)
theorem popHl : Statement .popHl :=
  decode_triple _ rfl (show unprefixedTag 0xE1#8 = .popRp2 .hl from rfl)
theorem jpPoNn (nn : Word) : Statement (.jpPoNn nn) :=
  decode_triple _ rfl (show unprefixedTag 0xE2#8 = .jpCc .po from rfl)
theorem exMemSpHl : Statement .exMemSpHl :=
  decode_triple _ rfl (show unprefixedTag 0xE3#8 = .exMemSpHl from rfl)
theorem callPoNn (nn : Word) : Statement (.callPoNn nn) :=
  decode_triple _ rfl (show unprefixedTag 0xE4#8 = .callCcNn .po from rfl)
theorem pushHl : Statement .pushHl :=
  decode_triple _ rfl (show unprefixedTag 0xE5#8 = .pushRp2 .hl from rfl)
theorem andN (n : Byte) : Statement (.andN n) :=
  decode_triple _ rfl (show unprefixedTag 0xE6#8 = .andN from rfl)
theorem rst20 : Statement .rst20 :=
  decode_triple _ rfl (show unprefixedTag 0xE7#8 = .rst 4#3 from rfl)
theorem retPe : Statement .retPe :=
  decode_triple _ rfl (show unprefixedTag 0xE8#8 = .retCc .pe from rfl)
theorem jpMemHl : Statement .jpMemHl :=
  decode_triple _ rfl (show unprefixedTag 0xE9#8 = .jpMemHl from rfl)
theorem jpPeNn (nn : Word) : Statement (.jpPeNn nn) :=
  decode_triple _ rfl (show unprefixedTag 0xEA#8 = .jpCc .pe from rfl)
theorem exDeHl : Statement .exDeHl :=
  decode_triple _ rfl (show unprefixedTag 0xEB#8 = .exDeHl from rfl)
theorem callPeNn (nn : Word) : Statement (.callPeNn nn) :=
  decode_triple _ rfl (show unprefixedTag 0xEC#8 = .callCcNn .pe from rfl)
theorem prefixEd (second : Byte) : Statement (.prefixEd second) :=
  decode_triple _ rfl (show unprefixedTag 0xED#8 = .invalid from rfl)
theorem xorN (n : Byte) : Statement (.xorN n) :=
  decode_triple _ rfl (show unprefixedTag 0xEE#8 = .xorN from rfl)
theorem rst28 : Statement .rst28 :=
  decode_triple _ rfl (show unprefixedTag 0xEF#8 = .rst 5#3 from rfl)
theorem retP : Statement .retP :=
  decode_triple _ rfl (show unprefixedTag 0xF0#8 = .retCc .p from rfl)
theorem popAf : Statement .popAf :=
  decode_triple _ rfl (show unprefixedTag 0xF1#8 = .popRp2 .af from rfl)
theorem jpPNn (nn : Word) : Statement (.jpPNn nn) :=
  decode_triple _ rfl (show unprefixedTag 0xF2#8 = .jpCc .p from rfl)
theorem di : Statement .di :=
  decode_triple _ rfl (show unprefixedTag 0xF3#8 = .di from rfl)
theorem callPNn (nn : Word) : Statement (.callPNn nn) :=
  decode_triple _ rfl (show unprefixedTag 0xF4#8 = .callCcNn .p from rfl)
theorem pushAf : Statement .pushAf :=
  decode_triple _ rfl (show unprefixedTag 0xF5#8 = .pushRp2 .af from rfl)
theorem orN (n : Byte) : Statement (.orN n) :=
  decode_triple _ rfl (show unprefixedTag 0xF6#8 = .orN from rfl)
theorem rst30 : Statement .rst30 :=
  decode_triple _ rfl (show unprefixedTag 0xF7#8 = .rst 6#3 from rfl)
theorem retM : Statement .retM :=
  decode_triple _ rfl (show unprefixedTag 0xF8#8 = .retCc .m from rfl)
theorem ldSpHl : Statement .ldSpHl :=
  decode_triple _ rfl (show unprefixedTag 0xF9#8 = .ldSpHl from rfl)
theorem jpMNn (nn : Word) : Statement (.jpMNn nn) :=
  decode_triple _ rfl (show unprefixedTag 0xFA#8 = .jpCc .m from rfl)
theorem ei : Statement .ei :=
  decode_triple _ rfl (show unprefixedTag 0xFB#8 = .ei from rfl)
theorem callMNn (nn : Word) : Statement (.callMNn nn) :=
  decode_triple _ rfl (show unprefixedTag 0xFC#8 = .callCcNn .m from rfl)
theorem prefixFd (second : Byte) : Statement (.prefixFd second) :=
  decode_triple _ rfl (show unprefixedTag 0xFD#8 = .invalid from rfl)
theorem cpN (n : Byte) : Statement (.cpN n) :=
  decode_triple _ rfl (show unprefixedTag 0xFE#8 = .cpN from rfl)
theorem rst38 : Statement .rst38 :=
  decode_triple _ rfl (show unprefixedTag 0xFF#8 = .rst 7#3 from rfl)

end Sys2Proof.Laws.OpcodeTag
end

