-- ==== Sys2Proof/Laws/Shapes.lean ====
section
/-! SUPPORT. The case analysis over instructions by shape: the 72 instructions of S as 22 families, the recognised
instructions outside S together, the prefixed ones together. Later proofs cite `instrShapes` instead of splitting over the
256 constructors, and the `exec_` equations instead of unfolding the Executor. -/

namespace Sys2Proof.Machine

/-- To show P of every instruction it is enough to show it of each family of S, of every instruction whose tag is
recognised but not executed, and of every prefixed one. -/
theorem instrShapes {P : Instr → Prop} (nop : P .nop) (exAfAf : P .exAfAf) (jr : ∀ d, P (.jrD d))
    (jrCc : ∀ cc d, P (Instr.jrCc cc d)) (incR : ∀ r, P (Instr.incR r)) (decR : ∀ r, P (Instr.decR r)) (rrca : P .rrca)
    (andR : ∀ r, P (Instr.andR r)) (xorR : ∀ r, P (Instr.xorR r)) (orR : ∀ r, P (Instr.orR r))
    (cpR : ∀ r, P (Instr.cpR r)) (jpCc : ∀ cc nn, P (Instr.jpCc cc nn)) (jp : ∀ nn, P (.jpNn nn)) (ret : P .ret)
    (call : ∀ nn, P (.callNn nn)) (di : P .di) (andN : ∀ n, P (.andN n)) (xorN : ∀ n, P (.xorN n))
    (orN : ∀ n, P (.orN n)) (cpN : ∀ n, P (.cpN n)) (unimplemented : ∀ i : Instr, i.tag.cls = .unimplemented → P i)
    (invalid : ∀ i : Instr, i.tag.cls = .invalid → P i) (i : Instr) : P i := by
  cases i with
  | nop => exact nop
  | ldBcNn nn => exact unimplemented _ rfl
  | ldMemBcA => exact unimplemented _ rfl
  | incBc => exact unimplemented _ rfl
  | incB => exact incR .b
  | decB => exact decR .b
  | ldBN n => exact unimplemented _ rfl
  | rlca => exact unimplemented _ rfl
  | exAfAf => exact exAfAf
  | addHlBc => exact unimplemented _ rfl
  | ldAMemBc => exact unimplemented _ rfl
  | decBc => exact unimplemented _ rfl
  | incC => exact incR .c
  | decC => exact decR .c
  | ldCN n => exact unimplemented _ rfl
  | rrca => exact rrca
  | djnzD d => exact unimplemented _ rfl
  | ldDeNn nn => exact unimplemented _ rfl
  | ldMemDeA => exact unimplemented _ rfl
  | incDe => exact unimplemented _ rfl
  | incD => exact incR .d
  | decD => exact decR .d
  | ldDN n => exact unimplemented _ rfl
  | rla => exact unimplemented _ rfl
  | jrD d => exact jr d
  | addHlDe => exact unimplemented _ rfl
  | ldAMemDe => exact unimplemented _ rfl
  | decDe => exact unimplemented _ rfl
  | incE => exact incR .e
  | decE => exact decR .e
  | ldEN n => exact unimplemented _ rfl
  | rra => exact unimplemented _ rfl
  | jrNzD d => exact jrCc .nz d
  | ldHlNn nn => exact unimplemented _ rfl
  | ldMemNnHl nn => exact unimplemented _ rfl
  | incHl => exact unimplemented _ rfl
  | incH => exact incR .h
  | decH => exact decR .h
  | ldHN n => exact unimplemented _ rfl
  | daa => exact unimplemented _ rfl
  | jrZD d => exact jrCc .z d
  | addHlHl => exact unimplemented _ rfl
  | ldHlMemNn nn => exact unimplemented _ rfl
  | decHl => exact unimplemented _ rfl
  | incL => exact incR .l
  | decL => exact decR .l
  | ldLN n => exact unimplemented _ rfl
  | cpl => exact unimplemented _ rfl
  | jrNcD d => exact jrCc .nc d
  | ldSpNn nn => exact unimplemented _ rfl
  | ldMemNnA nn => exact unimplemented _ rfl
  | incSp => exact unimplemented _ rfl
  | incMemHl => exact incR .memHl
  | decMemHl => exact decR .memHl
  | ldMemHlN n => exact unimplemented _ rfl
  | scf => exact unimplemented _ rfl
  | jrCD d => exact jrCc .c d
  | addHlSp => exact unimplemented _ rfl
  | ldAMemNn nn => exact unimplemented _ rfl
  | decSp => exact unimplemented _ rfl
  | incA => exact incR .a
  | decA => exact decR .a
  | ldAN n => exact unimplemented _ rfl
  | ccf => exact unimplemented _ rfl
  | ldBB => exact unimplemented _ rfl
  | ldBC => exact unimplemented _ rfl
  | ldBD => exact unimplemented _ rfl
  | ldBE => exact unimplemented _ rfl
  | ldBH => exact unimplemented _ rfl
  | ldBL => exact unimplemented _ rfl
  | ldBMemHl => exact unimplemented _ rfl
  | ldBA => exact unimplemented _ rfl
  | ldCB => exact unimplemented _ rfl
  | ldCC => exact unimplemented _ rfl
  | ldCD => exact unimplemented _ rfl
  | ldCE => exact unimplemented _ rfl
  | ldCH => exact unimplemented _ rfl
  | ldCL => exact unimplemented _ rfl
  | ldCMemHl => exact unimplemented _ rfl
  | ldCA => exact unimplemented _ rfl
  | ldDB => exact unimplemented _ rfl
  | ldDC => exact unimplemented _ rfl
  | ldDD => exact unimplemented _ rfl
  | ldDE => exact unimplemented _ rfl
  | ldDH => exact unimplemented _ rfl
  | ldDL => exact unimplemented _ rfl
  | ldDMemHl => exact unimplemented _ rfl
  | ldDA => exact unimplemented _ rfl
  | ldEB => exact unimplemented _ rfl
  | ldEC => exact unimplemented _ rfl
  | ldED => exact unimplemented _ rfl
  | ldEE => exact unimplemented _ rfl
  | ldEH => exact unimplemented _ rfl
  | ldEL => exact unimplemented _ rfl
  | ldEMemHl => exact unimplemented _ rfl
  | ldEA => exact unimplemented _ rfl
  | ldHB => exact unimplemented _ rfl
  | ldHC => exact unimplemented _ rfl
  | ldHD => exact unimplemented _ rfl
  | ldHE => exact unimplemented _ rfl
  | ldHH => exact unimplemented _ rfl
  | ldHL => exact unimplemented _ rfl
  | ldHMemHl => exact unimplemented _ rfl
  | ldHA => exact unimplemented _ rfl
  | ldLB => exact unimplemented _ rfl
  | ldLC => exact unimplemented _ rfl
  | ldLD => exact unimplemented _ rfl
  | ldLE => exact unimplemented _ rfl
  | ldLH => exact unimplemented _ rfl
  | ldLL => exact unimplemented _ rfl
  | ldLMemHl => exact unimplemented _ rfl
  | ldLA => exact unimplemented _ rfl
  | ldMemHlB => exact unimplemented _ rfl
  | ldMemHlC => exact unimplemented _ rfl
  | ldMemHlD => exact unimplemented _ rfl
  | ldMemHlE => exact unimplemented _ rfl
  | ldMemHlH => exact unimplemented _ rfl
  | ldMemHlL => exact unimplemented _ rfl
  | halt => exact unimplemented _ rfl
  | ldMemHlA => exact unimplemented _ rfl
  | ldAB => exact unimplemented _ rfl
  | ldAC => exact unimplemented _ rfl
  | ldAD => exact unimplemented _ rfl
  | ldAE => exact unimplemented _ rfl
  | ldAH => exact unimplemented _ rfl
  | ldAL => exact unimplemented _ rfl
  | ldAMemHl => exact unimplemented _ rfl
  | ldAA => exact unimplemented _ rfl
  | addAB => exact unimplemented _ rfl
  | addAC => exact unimplemented _ rfl
  | addAD => exact unimplemented _ rfl
  | addAE => exact unimplemented _ rfl
  | addAH => exact unimplemented _ rfl
  | addAL => exact unimplemented _ rfl
  | addAMemHl => exact unimplemented _ rfl
  | addAA => exact unimplemented _ rfl
  | adcAB => exact unimplemented _ rfl
  | adcAC => exact unimplemented _ rfl
  | adcAD => exact unimplemented _ rfl
  | adcAE => exact unimplemented _ rfl
  | adcAH => exact unimplemented _ rfl
  | adcAL => exact unimplemented _ rfl
  | adcAMemHl => exact unimplemented _ rfl
  | adcAA => exact unimplemented _ rfl
  | subB => exact unimplemented _ rfl
  | subC => exact unimplemented _ rfl
  | subD => exact unimplemented _ rfl
  | subE => exact unimplemented _ rfl
  | subH => exact unimplemented _ rfl
  | subL => exact unimplemented _ rfl
  | subMemHl => exact unimplemented _ rfl
  | subA => exact unimplemented _ rfl
  | sbcAB => exact unimplemented _ rfl
  | sbcAC => exact unimplemented _ rfl
  | sbcAD => exact unimplemented _ rfl
  | sbcAE => exact unimplemented _ rfl
  | sbcAH => exact unimplemented _ rfl
  | sbcAL => exact unimplemented _ rfl
  | sbcAMemHl => exact unimplemented _ rfl
  | sbcAA => exact unimplemented _ rfl
  | andB => exact andR .b
  | andC => exact andR .c
  | andD => exact andR .d
  | andE => exact andR .e
  | andH => exact andR .h
  | andL => exact andR .l
  | andMemHl => exact andR .memHl
  | andA => exact andR .a
  | xorB => exact xorR .b
  | xorC => exact xorR .c
  | xorD => exact xorR .d
  | xorE => exact xorR .e
  | xorH => exact xorR .h
  | xorL => exact xorR .l
  | xorMemHl => exact xorR .memHl
  | xorA => exact xorR .a
  | orB => exact orR .b
  | orC => exact orR .c
  | orD => exact orR .d
  | orE => exact orR .e
  | orH => exact orR .h
  | orL => exact orR .l
  | orMemHl => exact orR .memHl
  | orA => exact orR .a
  | cpB => exact cpR .b
  | cpC => exact cpR .c
  | cpD => exact cpR .d
  | cpE => exact cpR .e
  | cpH => exact cpR .h
  | cpL => exact cpR .l
  | cpMemHl => exact cpR .memHl
  | cpA => exact cpR .a
  | retNz => exact unimplemented _ rfl
  | popBc => exact unimplemented _ rfl
  | jpNzNn nn => exact jpCc .nz nn
  | jpNn nn => exact jp nn
  | callNzNn nn => exact unimplemented _ rfl
  | pushBc => exact unimplemented _ rfl
  | addAN n => exact unimplemented _ rfl
  | rst00 => exact unimplemented _ rfl
  | retZ => exact unimplemented _ rfl
  | ret => exact ret
  | jpZNn nn => exact jpCc .z nn
  | prefixCb second => exact invalid _ rfl
  | callZNn nn => exact unimplemented _ rfl
  | callNn nn => exact call nn
  | adcAN n => exact unimplemented _ rfl
  | rst08 => exact unimplemented _ rfl
  | retNc => exact unimplemented _ rfl
  | popDe => exact unimplemented _ rfl
  | jpNcNn nn => exact jpCc .nc nn
  | outMemNA n => exact unimplemented _ rfl
  | callNcNn nn => exact unimplemented _ rfl
  | pushDe => exact unimplemented _ rfl
  | subN n => exact unimplemented _ rfl
  | rst10 => exact unimplemented _ rfl
  | retC => exact unimplemented _ rfl
  | exx => exact unimplemented _ rfl
  | jpCNn nn => exact jpCc .c nn
  | inAMemN n => exact unimplemented _ rfl
  | callCNn nn => exact unimplemented _ rfl
  | prefixDd second => exact invalid _ rfl
  | sbcAN n => exact unimplemented _ rfl
  | rst18 => exact unimplemented _ rfl
  | retPo => exact unimplemented _ rfl
  | popHl => exact unimplemented _ rfl
  | jpPoNn nn => exact jpCc .po nn
  | exMemSpHl => exact unimplemented _ rfl
  | callPoNn nn => exact unimplemented _ rfl
  | pushHl => exact unimplemented _ rfl
  | andN n => exact andN n
  | rst20 => exact unimplemented _ rfl
  | retPe => exact unimplemented _ rfl
  | jpMemHl => exact unimplemented _ rfl
  | jpPeNn nn => exact jpCc .pe nn
  | exDeHl => exact unimplemented _ rfl
  | callPeNn nn => exact unimplemented _ rfl
  | prefixEd second => exact invalid _ rfl
  | xorN n => exact xorN n
  | rst28 => exact unimplemented _ rfl
  | retP => exact unimplemented _ rfl
  | popAf => exact unimplemented _ rfl
  | jpPNn nn => exact jpCc .p nn
  | di => exact di
  | callPNn nn => exact unimplemented _ rfl
  | pushAf => exact unimplemented _ rfl
  | orN n => exact orN n
  | rst30 => exact unimplemented _ rfl
  | retM => exact unimplemented _ rfl
  | ldSpHl => exact unimplemented _ rfl
  | jpMNn nn => exact jpCc .m nn
  | ei => exact unimplemented _ rfl
  | callMNn nn => exact unimplemented _ rfl
  | prefixFd second => exact invalid _ rfl
  | cpN n => exact cpN n
  | rst38 => exact unimplemented _ rfl

theorem exec_nop (s : State) : exec .nop s = .next (s.advance 1) := rfl

theorem exec_exAfAf (s : State) : exec .exAfAf s = .next (exchangeAf (s.advance 1)) := rfl

theorem exec_jrD (d : Byte) (s : State) : exec (.jrD d) s = .next (jumpBy d (s.advance 2)) := rfl

theorem exec_jrCc (cc : RelCond) (d : Byte) (s : State) : exec (Instr.jrCc cc d) s = .next (jumpByIf cc d s) := by cases cc <;> rfl

theorem exec_incR (r : Operand8) (s : State) : exec (Instr.incR r) s = .next (incrementR r (s.advance 1)) := by cases r <;> rfl

theorem exec_decR (r : Operand8) (s : State) : exec (Instr.decR r) s = .next (decrementR r (s.advance 1)) := by cases r <;> rfl

theorem exec_rrca (s : State) : exec .rrca s = .next (rotateRightA (s.advance 1)) := rfl

theorem exec_andR (r : Operand8) (s : State) : exec (Instr.andR r) s = .next (andReg r s) := by cases r <;> rfl

theorem exec_xorR (r : Operand8) (s : State) : exec (Instr.xorR r) s = .next (xorReg r s) := by cases r <;> rfl

theorem exec_orR (r : Operand8) (s : State) : exec (Instr.orR r) s = .next (orReg r s) := by cases r <;> rfl

theorem exec_cpR (r : Operand8) (s : State) : exec (Instr.cpR r) s = .next (cpReg r s) := by cases r <;> rfl

theorem exec_jpCc (cc : Cond) (nn : Word) (s : State) : exec (Instr.jpCc cc nn) s = .next (jumpIf cc nn s) := by cases cc <;> rfl

theorem exec_jpNn (nn : Word) (s : State) : exec (.jpNn nn) s = .next ((s.advance 3).setPc nn) := rfl

theorem exec_ret (s : State) : exec .ret s = .next ((s.advance 1).ret) := rfl

theorem exec_callNn (nn : Word) (s : State) : exec (.callNn nn) s = .next ((s.advance 3).call nn) := rfl

theorem exec_di (s : State) : exec .di s = .next ((s.advance 1).setIff false) := rfl

theorem exec_andN (n : Byte) (s : State) : exec (.andN n) s = .next (logicAnd n (s.advance 2)) := rfl

theorem exec_xorN (n : Byte) (s : State) : exec (.xorN n) s = .next (logicOrXor (s.regs.a ^^^ n) (s.advance 2)) := rfl

theorem exec_orN (n : Byte) (s : State) : exec (.orN n) s = .next (logicOrXor (s.regs.a ||| n) (s.advance 2)) := rfl

theorem exec_cpN (n : Byte) (s : State) : exec (.cpN n) s = .next (compareA n (s.advance 2)) := rfl

/-- A recognised instruction outside S takes the shared halt with its tag (42_system.md R152). -/
theorem exec_unimplemented (i : Instr) (s : State) (h : i.tag.cls = .unimplemented) :
    exec i s = .next (haltUnimplemented i.tag s) := by
  revert h
  cases i <;> first | exact fun _ => rfl | exact fun h => nomatch h

/-- A prefixed instruction takes the shared halt with its two Bytes (42_system.md R153). -/
theorem exec_invalid (i : Instr) (h : i.tag.cls = .invalid) :
    ∃ second, ∀ s : State, exec i s = .next (haltInvalid i.opcode second s) := by
  revert h
  cases i <;> first | exact fun _ => ⟨_, fun _ => rfl⟩ | exact fun h => nomatch h

/-- What the Executor can do, once: to show Q of every instruction, state and next state it is enough to show it of each
family's own next state. -/
theorem exec_inversion (Q : Instr → State → State → Prop)
    (nop : ∀ s, Q .nop s (s.advance 1)) (exAfAf : ∀ s, Q .exAfAf s (exchangeAf (s.advance 1)))
    (jr : ∀ d s, Q (.jrD d) s (jumpBy d (s.advance 2))) (jrCc : ∀ cc d s, Q (Instr.jrCc cc d) s (jumpByIf cc d s))
    (incR : ∀ r s, Q (Instr.incR r) s (incrementR r (s.advance 1)))
    (decR : ∀ r s, Q (Instr.decR r) s (decrementR r (s.advance 1)))
    (rrca : ∀ s, Q .rrca s (rotateRightA (s.advance 1))) (andR : ∀ r s, Q (Instr.andR r) s (andReg r s))
    (xorR : ∀ r s, Q (Instr.xorR r) s (xorReg r s)) (orR : ∀ r s, Q (Instr.orR r) s (orReg r s))
    (cpR : ∀ r s, Q (Instr.cpR r) s (cpReg r s)) (jpCc : ∀ cc nn s, Q (Instr.jpCc cc nn) s (jumpIf cc nn s))
    (jp : ∀ nn s, Q (.jpNn nn) s ((s.advance 3).setPc nn)) (ret : ∀ s, Q .ret s (s.advance 1).ret)
    (call : ∀ nn s, Q (.callNn nn) s ((s.advance 3).call nn)) (di : ∀ s, Q .di s ((s.advance 1).setIff false))
    (andN : ∀ n s, Q (.andN n) s (logicAnd n (s.advance 2)))
    (xorN : ∀ n s, Q (.xorN n) s (logicOrXor (s.regs.a ^^^ n) (s.advance 2)))
    (orN : ∀ n s, Q (.orN n) s (logicOrXor (s.regs.a ||| n) (s.advance 2)))
    (cpN : ∀ n s, Q (.cpN n) s (compareA n (s.advance 2)))
    (unimplemented : ∀ i s, i.tag.cls = .unimplemented → Q i s (haltUnimplemented i.tag s))
    (invalid : ∀ i s second, i.tag.cls = .invalid → Q i s (haltInvalid i.opcode second s))
    (i : Instr) (s t : State) (h : exec i s = .next t) : Q i s t := by
  have of_eq : ∀ {i : Instr} {s t u : State}, exec i s = .next u → exec i s = .next t → Q i s u → Q i s t := by
    intro i s t u hu ht hq
    rw [hu] at ht
    injection ht with ht
    exact ht ▸ hq
  revert s t h
  refine instrShapes (P := fun i => ∀ s t, exec i s = .next t → Q i s t) ?_ ?_ ?_ ?_ ?_ ?_ ?_ ?_ ?_ ?_ ?_ ?_ ?_ ?_ ?_ ?_
    ?_ ?_ ?_ ?_ ?_ ?_ i
  · exact fun s t h => of_eq (exec_nop s) h (nop s)
  · exact fun s t h => of_eq (exec_exAfAf s) h (exAfAf s)
  · exact fun d s t h => of_eq (exec_jrD d s) h (jr d s)
  · exact fun cc d s t h => of_eq (exec_jrCc cc d s) h (jrCc cc d s)
  · exact fun r s t h => of_eq (exec_incR r s) h (incR r s)
  · exact fun r s t h => of_eq (exec_decR r s) h (decR r s)
  · exact fun s t h => of_eq (exec_rrca s) h (rrca s)
  · exact fun r s t h => of_eq (exec_andR r s) h (andR r s)
  · exact fun r s t h => of_eq (exec_xorR r s) h (xorR r s)
  · exact fun r s t h => of_eq (exec_orR r s) h (orR r s)
  · exact fun r s t h => of_eq (exec_cpR r s) h (cpR r s)
  · exact fun cc nn s t h => of_eq (exec_jpCc cc nn s) h (jpCc cc nn s)
  · exact fun nn s t h => of_eq (exec_jpNn nn s) h (jp nn s)
  · exact fun s t h => of_eq (exec_ret s) h (ret s)
  · exact fun nn s t h => of_eq (exec_callNn nn s) h (call nn s)
  · exact fun s t h => of_eq (exec_di s) h (di s)
  · exact fun n s t h => of_eq (exec_andN n s) h (andN n s)
  · exact fun n s t h => of_eq (exec_xorN n s) h (xorN n s)
  · exact fun n s t h => of_eq (exec_orN n s) h (orN n s)
  · exact fun n s t h => of_eq (exec_cpN n s) h (cpN n s)
  · exact fun i hi s t h => of_eq (exec_unimplemented i s hi) h (unimplemented i s hi)
  · intro i hi s t h
    obtain ⟨second, hs⟩ := exec_invalid i hi
    exact of_eq (hs s) h (invalid i s second hi)

end Sys2Proof.Machine
end

