-- ==== Sys2Proof/Tests/Slice0.lean ====
section
/-! SUPPORT. The model's own tests. Expected values are those of spec/95_test_vectors.md (the vector is named) or of the rule
cited, worked by hand. The `witness_` theorems show, for each statement with hypotheses, values that meet them. -/

namespace Sys2Proof.Tests

open Sys2Proof.Machine

/-- The start state of 95_test_vectors.md part 2: everything 0, the Bytes at PC = 0x0100, status Ready. -/
def startAt (pc : Word) (bs : List Byte) : State :=
  { State.reset with pc := pc, mem := Memory.writeBytes [] pc.toNat bs }

/-- `startAt 0x0100`. -/
def start (bs : List Byte) : State := startAt 0x0100#16 bs

/-- The setup of 95_test_vectors.md 2.4: B to L and the Byte at 0x1020, and A and F.C given. -/
def setup24 (a : Byte) (carry : Bool) (op : Byte) : State :=
  { start [op] with
    regs := { RegSet.zero with a := a, b := 0x01#8, c := 0x02#8, d := 0x04#8, e := 0x08#8, h := 0x10#8, l := 0x20#8,
                               f := { Flags.none with c := carry } },
    mem := (Memory.writeBytes [] 0x0100 [op]).write 0x1020 0x40#8 }

/-- What one step leaves in a part of the state, none if it does not answer. -/
def after {α : Type} (f : State → α) (s : State) : Option α :=
  match step s with
  | .next t => some (f t)
  | .fault _ => none
  | .refused _ => none

/-! ## WellFormed: an ill-formed term for each check -/

theorem test_wf_refuses_ld_hl_hl : (Tag.ldRR .memHl .memHl).wf = false := by decide
theorem test_wf_accepts_ld_a_hl : (Tag.ldRR .a .memHl).wf = true := by decide
theorem test_wf_refuses_triple_with_ill_formed_tag : (Decoded.mk (.ldRR .memHl .memHl) 1 false).wf = false := by decide
theorem test_wf_refuses_triple_with_wrong_length : (Decoded.mk .nop 2 false).wf = false := by decide
theorem test_wf_refuses_prefix_flag_on_nop : (Decoded.mk .nop 1 true).wf = false := by decide
theorem test_wf_refuses_invalid_without_prefix : (Decoded.mk .invalid 1 false).wf = false := by decide
theorem test_wf_accepts_call_triple : (Decoded.mk .call 3 false).wf = true := by decide
theorem test_wf_instr_ld_a_a : Instr.ldAA.wf = true := by decide
theorem test_wf_refuses_long_image : imageFits (List.replicate 65537 0x00#8) = false :=
  decide_eq_false (by rw [List.length_replicate]; omega)
theorem test_wf_accepts_full_image : imageFits (List.replicate 65536 0x00#8) = true :=
  decide_eq_true (by rw [List.length_replicate])

/-! ## Decode: 95_test_vectors.md 2.1 -/

theorem test_decode_00 : decode ⟨0x00#8, 0x00#8, 0x00#8, 0x00#8⟩ = ⟨.nop, 1, false⟩ ∧
    decodeInstr ⟨0x00#8, 0x00#8, 0x00#8, 0x00#8⟩ = .ok (.nop) := ⟨by decide, by decide⟩
theorem test_decode_08 : decode ⟨0x08#8, 0x00#8, 0x00#8, 0x00#8⟩ = ⟨.exAfAf, 1, false⟩ ∧
    decodeInstr ⟨0x08#8, 0x00#8, 0x00#8, 0x00#8⟩ = .ok (.exAfAf) := ⟨by decide, by decide⟩
theorem test_decode_0f : decode ⟨0x0F#8, 0x00#8, 0x00#8, 0x00#8⟩ = ⟨.rrca, 1, false⟩ ∧
    decodeInstr ⟨0x0F#8, 0x00#8, 0x00#8, 0x00#8⟩ = .ok (.rrca) := ⟨by decide, by decide⟩
theorem test_decode_18 : decode ⟨0x18#8, 0xFE#8, 0x00#8, 0x00#8⟩ = ⟨.jr, 2, false⟩ ∧
    decodeInstr ⟨0x18#8, 0xFE#8, 0x00#8, 0x00#8⟩ = .ok (.jrD 0xFE#8) := ⟨by decide, by decide⟩
theorem test_decode_38 : decode ⟨0x38#8, 0xF0#8, 0x00#8, 0x00#8⟩ = ⟨.jrCc .c, 2, false⟩ ∧
    decodeInstr ⟨0x38#8, 0xF0#8, 0x00#8, 0x00#8⟩ = .ok (.jrCD 0xF0#8) := ⟨by decide, by decide⟩
theorem test_decode_34 : decode ⟨0x34#8, 0x00#8, 0x00#8, 0x00#8⟩ = ⟨.incR .memHl, 1, false⟩ ∧
    decodeInstr ⟨0x34#8, 0x00#8, 0x00#8, 0x00#8⟩ = .ok (.incMemHl) := ⟨by decide, by decide⟩
theorem test_decode_3d : decode ⟨0x3D#8, 0x00#8, 0x00#8, 0x00#8⟩ = ⟨.decR .a, 1, false⟩ ∧
    decodeInstr ⟨0x3D#8, 0x00#8, 0x00#8, 0x00#8⟩ = .ok (.decA) := ⟨by decide, by decide⟩
theorem test_decode_a6 : decode ⟨0xA6#8, 0x00#8, 0x00#8, 0x00#8⟩ = ⟨.andR .memHl, 1, false⟩ ∧
    decodeInstr ⟨0xA6#8, 0x00#8, 0x00#8, 0x00#8⟩ = .ok (.andMemHl) := ⟨by decide, by decide⟩
theorem test_decode_af : decode ⟨0xAF#8, 0x00#8, 0x00#8, 0x00#8⟩ = ⟨.xorR .a, 1, false⟩ ∧
    decodeInstr ⟨0xAF#8, 0x00#8, 0x00#8, 0x00#8⟩ = .ok (.xorA) := ⟨by decide, by decide⟩
theorem test_decode_b0 : decode ⟨0xB0#8, 0x00#8, 0x00#8, 0x00#8⟩ = ⟨.orR .b, 1, false⟩ ∧
    decodeInstr ⟨0xB0#8, 0x00#8, 0x00#8, 0x00#8⟩ = .ok (.orB) := ⟨by decide, by decide⟩
theorem test_decode_b9 : decode ⟨0xB9#8, 0x00#8, 0x00#8, 0x00#8⟩ = ⟨.cpR .c, 1, false⟩ ∧
    decodeInstr ⟨0xB9#8, 0x00#8, 0x00#8, 0x00#8⟩ = .ok (.cpC) := ⟨by decide, by decide⟩
theorem test_decode_c3 : decode ⟨0xC3#8, 0x34#8, 0x12#8, 0x00#8⟩ = ⟨.jp, 3, false⟩ ∧
    decodeInstr ⟨0xC3#8, 0x34#8, 0x12#8, 0x00#8⟩ = .ok (.jpNn 0x1234#16) := ⟨by decide, by decide⟩
theorem test_decode_fa : decode ⟨0xFA#8, 0x00#8, 0x30#8, 0x00#8⟩ = ⟨.jpCc .m, 3, false⟩ ∧
    decodeInstr ⟨0xFA#8, 0x00#8, 0x30#8, 0x00#8⟩ = .ok (.jpMNn 0x3000#16) := ⟨by decide, by decide⟩
theorem test_decode_c9 : decode ⟨0xC9#8, 0x00#8, 0x00#8, 0x00#8⟩ = ⟨.ret, 1, false⟩ ∧
    decodeInstr ⟨0xC9#8, 0x00#8, 0x00#8, 0x00#8⟩ = .ok (.ret) := ⟨by decide, by decide⟩
theorem test_decode_cd : decode ⟨0xCD#8, 0x00#8, 0x02#8, 0x00#8⟩ = ⟨.call, 3, false⟩ ∧
    decodeInstr ⟨0xCD#8, 0x00#8, 0x02#8, 0x00#8⟩ = .ok (.callNn 0x0200#16) := ⟨by decide, by decide⟩
theorem test_decode_e6 : decode ⟨0xE6#8, 0x0F#8, 0x00#8, 0x00#8⟩ = ⟨.andN, 2, false⟩ ∧
    decodeInstr ⟨0xE6#8, 0x0F#8, 0x00#8, 0x00#8⟩ = .ok (.andN 0x0F#8) := ⟨by decide, by decide⟩
theorem test_decode_ee : decode ⟨0xEE#8, 0x00#8, 0x00#8, 0x00#8⟩ = ⟨.xorN, 2, false⟩ ∧
    decodeInstr ⟨0xEE#8, 0x00#8, 0x00#8, 0x00#8⟩ = .ok (.xorN 0x00#8) := ⟨by decide, by decide⟩
theorem test_decode_f6 : decode ⟨0xF6#8, 0x00#8, 0x00#8, 0x00#8⟩ = ⟨.orN, 2, false⟩ ∧
    decodeInstr ⟨0xF6#8, 0x00#8, 0x00#8, 0x00#8⟩ = .ok (.orN 0x00#8) := ⟨by decide, by decide⟩
theorem test_decode_fe : decode ⟨0xFE#8, 0x00#8, 0x00#8, 0x00#8⟩ = ⟨.cpN, 2, false⟩ ∧
    decodeInstr ⟨0xFE#8, 0x00#8, 0x00#8, 0x00#8⟩ = .ok (.cpN 0x00#8) := ⟨by decide, by decide⟩
theorem test_decode_f3 : decode ⟨0xF3#8, 0x00#8, 0x00#8, 0x00#8⟩ = ⟨.di, 1, false⟩ ∧
    decodeInstr ⟨0xF3#8, 0x00#8, 0x00#8, 0x00#8⟩ = .ok (.di) := ⟨by decide, by decide⟩
theorem test_decode_76 : decode ⟨0x76#8, 0x00#8, 0x00#8, 0x00#8⟩ = ⟨.halt, 1, false⟩ ∧
    decodeInstr ⟨0x76#8, 0x00#8, 0x00#8, 0x00#8⟩ = .ok (.halt) := ⟨by decide, by decide⟩
theorem test_decode_3e : decode ⟨0x3E#8, 0x12#8, 0x00#8, 0x00#8⟩ = ⟨.ldRN .a, 2, false⟩ ∧
    decodeInstr ⟨0x3E#8, 0x12#8, 0x00#8, 0x00#8⟩ = .ok (.ldAN 0x12#8) := ⟨by decide, by decide⟩
theorem test_decode_01 : decode ⟨0x01#8, 0x34#8, 0x12#8, 0x00#8⟩ = ⟨.ldRpNn .bc, 3, false⟩ ∧
    decodeInstr ⟨0x01#8, 0x34#8, 0x12#8, 0x00#8⟩ = .ok (.ldBcNn 0x1234#16) := ⟨by decide, by decide⟩
theorem test_decode_10 : decode ⟨0x10#8, 0xFE#8, 0x00#8, 0x00#8⟩ = ⟨.djnzD, 2, false⟩ ∧
    decodeInstr ⟨0x10#8, 0xFE#8, 0x00#8, 0x00#8⟩ = .ok (.djnzD 0xFE#8) := ⟨by decide, by decide⟩
theorem test_decode_d9 : decode ⟨0xD9#8, 0x00#8, 0x00#8, 0x00#8⟩ = ⟨.exx, 1, false⟩ ∧
    decodeInstr ⟨0xD9#8, 0x00#8, 0x00#8, 0x00#8⟩ = .ok (.exx) := ⟨by decide, by decide⟩
theorem test_decode_fb : decode ⟨0xFB#8, 0x00#8, 0x00#8, 0x00#8⟩ = ⟨.ei, 1, false⟩ ∧
    decodeInstr ⟨0xFB#8, 0x00#8, 0x00#8, 0x00#8⟩ = .ok (.ei) := ⟨by decide, by decide⟩
theorem test_decode_c0 : decode ⟨0xC0#8, 0x00#8, 0x00#8, 0x00#8⟩ = ⟨.retCc .nz, 1, false⟩ ∧
    decodeInstr ⟨0xC0#8, 0x00#8, 0x00#8, 0x00#8⟩ = .ok (.retNz) := ⟨by decide, by decide⟩
theorem test_decode_ff : decode ⟨0xFF#8, 0x00#8, 0x00#8, 0x00#8⟩ = ⟨.rst 7#3, 1, false⟩ ∧
    decodeInstr ⟨0xFF#8, 0x00#8, 0x00#8, 0x00#8⟩ = .ok (.rst38) := ⟨by decide, by decide⟩
theorem test_decode_cb_00_00_00 : decode ⟨0xCB#8, 0x00#8, 0x00#8, 0x00#8⟩ = ⟨.invalid, 1, true⟩ ∧
    decodeInstr ⟨0xCB#8, 0x00#8, 0x00#8, 0x00#8⟩ = .ok (.prefixCb 0x00#8) := ⟨by decide, by decide⟩
theorem test_decode_ed_b0_00_00 : decode ⟨0xED#8, 0xB0#8, 0x00#8, 0x00#8⟩ = ⟨.invalid, 1, true⟩ ∧
    decodeInstr ⟨0xED#8, 0xB0#8, 0x00#8, 0x00#8⟩ = .ok (.prefixEd 0xB0#8) := ⟨by decide, by decide⟩
theorem test_decode_dd_21_34_12 : decode ⟨0xDD#8, 0x21#8, 0x34#8, 0x12#8⟩ = ⟨.invalid, 1, true⟩ ∧
    decodeInstr ⟨0xDD#8, 0x21#8, 0x34#8, 0x12#8⟩ = .ok (.prefixDd 0x21#8) := ⟨by decide, by decide⟩
theorem test_decode_fd_cb_05_06 : decode ⟨0xFD#8, 0xCB#8, 0x05#8, 0x06#8⟩ = ⟨.invalid, 1, true⟩ ∧
    decodeInstr ⟨0xFD#8, 0xCB#8, 0x05#8, 0x06#8⟩ = .ok (.prefixFd 0xCB#8) := ⟨by decide, by decide⟩
theorem test_decode_dd_dd_00_00 : decode ⟨0xDD#8, 0xDD#8, 0x00#8, 0x00#8⟩ = ⟨.invalid, 1, true⟩ ∧
    decodeInstr ⟨0xDD#8, 0xDD#8, 0x00#8, 0x00#8⟩ = .ok (.prefixDd 0xDD#8) := ⟨by decide, by decide⟩

/-! Words of further families, bit by bit from 30_encoding.md R82 (`x x y y y z z z`, with `p p q` for y). -/

theorem test_decode_add_hl_de : decodeTableWord 8 0b00011001 = some .addHlDe := by decide
theorem test_decode_ld_mem_nn_hl : decodeTableWord 24 0b000100100011010000100010 = some (.ldMemNnHl 0x1234#16) := by decide
theorem test_decode_inc_sp : decodeTableWord 8 0b00110011 = some .incSp := by decide
theorem test_decode_ld_h_l : decodeTableWord 8 0b01100101 = some .ldHL := by decide
theorem test_decode_adc_a_d : decodeTableWord 8 0b10001010 = some .adcAD := by decide
theorem test_decode_sbc_a_hl : decodeTableWord 8 0b10011110 = some .sbcAMemHl := by decide
theorem test_decode_pop_af : decodeTableWord 8 0b11110001 = some .popAf := by decide
theorem test_decode_push_de : decodeTableWord 8 0b11010101 = some .pushDe := by decide
theorem test_decode_call_pe : decodeTableWord 24 0b101010111100110111101100 = some (.callPeNn 0xABCD#16) := by decide
theorem test_decode_out : decodeTableWord 16 0b1111111011010011 = some (.outMemNA 0xFE#8) := by decide
theorem test_decode_rst_18 : decodeTableWord 8 0b11011111 = some .rst18 := by decide
theorem test_encode_call : encode (.callNn 0x0200#16) = [0xCD#8, 0x00#8, 0x02#8] := by decide
theorem test_encode_jr : encode (.jrCD 0xF0#8) = [0x38#8, 0xF0#8] := by decide

/-! ## One step: logical and compare (95_test_vectors.md 2.4) -/

/-- AND r, A = 0xFF, F.C = 1 before: A and packed F after, for the eight operands in order. -/
theorem test_and_operands :
    [0xA0#8, 0xA1#8, 0xA2#8, 0xA3#8, 0xA4#8, 0xA5#8, 0xA6#8, 0xA7#8].map
      (fun op => after (fun t => (t.regs.a, t.regs.f.toByte, t.pc)) (setup24 0xFF#8 true op)) =
    [some (0x01#8, 0x10#8, 0x0101#16), some (0x02#8, 0x10#8, 0x0101#16), some (0x04#8, 0x10#8, 0x0101#16),
     some (0x08#8, 0x10#8, 0x0101#16), some (0x10#8, 0x10#8, 0x0101#16), some (0x20#8, 0x10#8, 0x0101#16),
     some (0x40#8, 0x10#8, 0x0101#16), some (0xFF#8, 0x90#8, 0x0101#16)] := by decide

/-- OR r, A = 0x00: A, S, Z, and H, N, C cleared. -/
theorem test_or_operands :
    [0xB0#8, 0xB1#8, 0xB2#8, 0xB3#8, 0xB4#8, 0xB5#8, 0xB6#8, 0xB7#8].map
      (fun op => after (fun t => (t.regs.a, t.regs.f.s, t.regs.f.z, t.regs.f.h || t.regs.f.n || t.regs.f.c))
        (setup24 0x00#8 true op)) =
    [some (0x01#8, false, false, false), some (0x02#8, false, false, false), some (0x04#8, false, false, false),
     some (0x08#8, false, false, false), some (0x10#8, false, false, false), some (0x20#8, false, false, false),
     some (0x40#8, false, false, false), some (0x00#8, false, true, false)] := by decide

/-- XOR r, A = 0xFF: A, S, Z, and H, N, C cleared. -/
theorem test_xor_operands :
    [0xA8#8, 0xA9#8, 0xAA#8, 0xAB#8, 0xAC#8, 0xAD#8, 0xAE#8, 0xAF#8].map
      (fun op => after (fun t => (t.regs.a, t.regs.f.s, t.regs.f.z, t.regs.f.h || t.regs.f.n || t.regs.f.c))
        (setup24 0xFF#8 true op)) =
    [some (0xFE#8, true, false, false), some (0xFD#8, true, false, false), some (0xFB#8, true, false, false),
     some (0xF7#8, true, false, false), some (0xEF#8, true, false, false), some (0xDF#8, true, false, false),
     some (0xBF#8, true, false, false), some (0x00#8, false, true, false)] := by decide

/-- CP r, A = 0x10: S, Z, H = diff[5], C, N, and A kept. -/
theorem test_cp_operands :
    [0xB8#8, 0xB9#8, 0xBA#8, 0xBB#8, 0xBC#8, 0xBD#8, 0xBE#8, 0xBF#8].map
      (fun op => after (fun t => (t.regs.f.s, t.regs.f.z, t.regs.f.h, t.regs.f.c, t.regs.f.n && t.regs.a == 0x10#8))
        (setup24 0x10#8 false op)) =
    [some (false, false, false, false, true), some (false, false, false, false, true),
     some (false, false, false, false, true), some (false, false, false, false, true),
     some (false, true, false, false, true), some (true, false, true, true, true),
     some (true, false, false, true, true), some (false, true, false, false, true)] := by decide

/-- S8 of part 1: AND 0x0F. -/
theorem test_and_n_source : after (fun t => (t.regs.a, t.regs.f.toByte, t.pc))
    ({ start [0xE6#8, 0x0F#8] with regs := { RegSet.zero with a := 0x0F#8 } }) = some (0x0F#8, 0x10#8, 0x0102#16) := by decide

/-- L1: AND 0x0F of 0xF0. -/
theorem test_and_n_zero : after (fun t => (t.regs.a, t.regs.f.toByte))
    ({ start [0xE6#8, 0x0F#8] with regs := { RegSet.zero with a := 0xF0#8 } }) = some (0x00#8, 0x50#8) := by decide

/-- L3: OR 0x80. -/
theorem test_or_n : after (fun t => (t.regs.a, t.regs.f.s, t.regs.f.z, t.regs.f.c, t.pc))
    ({ start [0xF6#8, 0x80#8] with regs := { RegSet.zero with a := 0x01#8 } }) =
      some (0x81#8, true, false, false, 0x0102#16) := by decide

/-- L6: XOR 0x5A. -/
theorem test_xor_n : after (fun t => (t.regs.a, t.regs.f.s, t.regs.f.z, t.regs.f.h, t.pc))
    ({ start [0xEE#8, 0x5A#8] with regs := { RegSet.zero with a := 0x5A#8 } }) =
      some (0x00#8, false, true, false, 0x0102#16) := by decide

/-- L8: the bit-5 placeholder. -/
theorem test_cp_n_half_carry : after (fun t => (t.regs.f.s, t.regs.f.z, t.regs.f.h, t.regs.f.c, t.regs.f.n))
    ({ start [0xFE#8, 0x10#8] with regs := { RegSet.zero with a := 0x30#8 } }) =
      some (false, false, true, false, true) := by decide

/-- L10: C is the unsigned borrow. -/
theorem test_cp_n_borrow : after (fun t => (t.regs.a, t.regs.f.s, t.regs.f.h, t.regs.f.c))
    ({ start [0xFE#8, 0x01#8] with regs := { RegSet.zero with a := 0x80#8 } }) =
      some (0x80#8, false, true, false) := by decide

/-- FL3: X3 and X5 are kept by XOR A. -/
theorem test_xor_a_keeps_undefined_bits : after (fun t => (t.regs.f.x5, t.regs.f.x3, t.regs.f.z))
    ({ start [0xAF#8] with regs := { RegSet.zero with f := Flags.fromByte 0x28#8 } }) = some (true, true, true) := by decide

/-! ## One step: increment, decrement, rotate (95_test_vectors.md 2.5, 2.6) -/

/-- INC r, A = 0xFF, F.C = 1: the operand, S, Z, PV, N and C kept. -/
theorem test_inc_operands :
    [(0x04#8, Operand8.b), (0x0C#8, .c), (0x14#8, .d), (0x1C#8, .e), (0x24#8, .h), (0x2C#8, .l), (0x3C#8, .a)].map
      (fun x => after (fun t => (readR x.2 t, t.regs.f.s, t.regs.f.z, t.regs.f.pv || t.regs.f.n, t.regs.f.c))
        (setup24 0xFF#8 true x.1)) =
    [some (0x02#8, false, false, false, true), some (0x03#8, false, false, false, true),
     some (0x05#8, false, false, false, true), some (0x09#8, false, false, false, true),
     some (0x11#8, false, false, false, true), some (0x21#8, false, false, false, true),
     some (0x00#8, false, true, false, true)] := by decide

/-- DEC r, A = 0xFF, F.C = 1: the operand, S, Z, PV, N and C kept. -/
theorem test_dec_operands :
    [(0x05#8, Operand8.b), (0x0D#8, .c), (0x15#8, .d), (0x1D#8, .e), (0x25#8, .h), (0x2D#8, .l), (0x3D#8, .a)].map
      (fun x => after (fun t => (readR x.2 t, t.regs.f.s, t.regs.f.z, t.regs.f.pv, t.regs.f.n && t.regs.f.c))
        (setup24 0xFF#8 true x.1)) =
    [some (0x00#8, false, true, false, true), some (0x01#8, false, false, false, true),
     some (0x03#8, false, false, false, true), some (0x07#8, false, false, false, true),
     some (0x0F#8, false, false, false, true), some (0x1F#8, false, false, false, true),
     some (0xFE#8, true, false, false, true)] := by decide

/-- INC (HL) of 0x40 at 0x1020. -/
theorem test_inc_mem : after (fun t => (t.mem.read 0x1020, t.hl, t.regs.f.c)) (setup24 0xFF#8 true 0x34#8) =
    some (0x41#8, 0x1020#16, true) := by decide

/-- ID6: DEC (HL) of 0x80. -/
theorem test_dec_mem_overflow : after (fun t => (t.mem.read 0x2000, t.regs.f.pv, t.regs.f.n, t.regs.f.s))
    ({ start [0x35#8] with
       regs := { RegSet.zero with h := 0x20#8 }, mem := (Memory.writeBytes [] 0x0100 [0x35#8]).write 0x2000 0x80#8 }) =
      some (0x7F#8, true, true, false) := by decide

/-- ID1: INC A of 0x7F. -/
theorem test_inc_a_overflow : after (fun t => (t.regs.a, t.regs.f.s, t.regs.f.pv, t.regs.f.c))
    ({ start [0x3C#8] with regs := { RegSet.zero with a := 0x7F#8 } }) = some (0x80#8, true, true, false) := by decide

/-- ID5: INC L of 0xFF, no carry into H. -/
theorem test_inc_l_wraps : after (fun t => (t.regs.h, t.regs.l, t.regs.f.z))
    ({ start [0x2C#8] with regs := { RegSet.zero with h := 0x12#8, l := 0xFF#8 } }) = some (0x12#8, 0x00#8, true) := by decide

/-- RRCA: A, C and the packed other flags, S, Z, PV, H, N set before. -/
theorem test_rrca_rows :
    [0x01#8, 0x80#8, 0x00#8, 0xFF#8, 0x11#8, 0x02#8].map
      (fun a => after (fun t => (t.regs.a, t.regs.f.toByte))
        ({ start [0x0F#8] with
           regs := { RegSet.zero with a := a, f := { Flags.none with s := true, z := true, pv := true, h := true, n := true } } })) =
    [some (0x80#8, 0xC5#8), some (0x40#8, 0xC4#8), some (0x00#8, 0xC4#8), some (0xFF#8, 0xC5#8), some (0x88#8, 0xC5#8),
     some (0x01#8, 0xC4#8)] := by decide

/-! ## One step: control transfer (95_test_vectors.md 2.7) -/

/-- CF1: NOP at 0xFFFF wraps. -/
theorem test_nop_wraps : after (fun t => t.pc) (startAt 0xFFFF#16 [0x00#8]) = some 0x0000#16 := by decide

/-- S7: JP 0x1234 from 0x8000. -/
theorem test_jp : after (fun t => t.pc) (startAt 0x8000#16 [0xC3#8, 0x34#8, 0x12#8]) = some 0x1234#16 := by decide

/-- CF2 to CF9: JR d. -/
theorem test_jr_rows :
    [(0x0100#16, 0x05#8), (0x0100#16, 0xFB#8), (0x0100#16, 0xFE#8), (0x0100#16, 0x00#8), (0x0100#16, 0x80#8),
     (0x0100#16, 0x7F#8), (0xFFF0#16, 0x7F#8), (0x0000#16, 0x80#8)].map
      (fun x => after (fun t => t.pc) (startAt x.1 [0x18#8, x.2])) =
    [some 0x0107#16, some 0x00FD#16, some 0x0100#16, some 0x0102#16, some 0x0082#16, some 0x0181#16, some 0x0071#16,
     some 0xFF82#16] := by decide

/-- CF10 to CF14: JR cc,d at 0x0010 with F as packed. -/
theorem test_jr_cc_rows :
    [(0x20#8, 0x10#8, 0x40#8), (0x28#8, 0x10#8, 0x40#8), (0x30#8, 0xF0#8, 0x00#8), (0x38#8, 0xF0#8, 0x01#8),
     (0x38#8, 0xF0#8, 0x00#8)].map
      (fun x => after (fun t => t.pc)
        ({ startAt 0x0010#16 [x.1, x.2.1] with regs := { RegSet.zero with f := Flags.fromByte x.2.2 } })) =
    [some 0x0012#16, some 0x0022#16, some 0x0002#16, some 0x0002#16, some 0x0012#16] := by decide

/-- JP cc,0x3000 at 0x0200, the eight rows, with F as packed (Z 0x40, C 0x01, PV 0x04, S 0x80). -/
theorem test_jp_cc_rows :
    [(0xC2#8, 0x00#8), (0xCA#8, 0x00#8), (0xD2#8, 0x01#8), (0xDA#8, 0x01#8), (0xE2#8, 0x00#8), (0xEA#8, 0x00#8),
     (0xF2#8, 0x80#8), (0xFA#8, 0x80#8)].map
      (fun x => after (fun t => t.pc)
        ({ startAt 0x0200#16 [x.1, 0x00#8, 0x30#8] with regs := { RegSet.zero with f := Flags.fromByte x.2 } })) =
    [some 0x3000#16, some 0x0203#16, some 0x0203#16, some 0x3000#16, some 0x3000#16, some 0x0203#16, some 0x0203#16,
     some 0x3000#16] := by decide

/-- S9: CALL 0x0200. -/
theorem test_call : after (fun t => (t.pc, t.sp, t.mem.read 0xFEFE, t.mem.read 0xFEFF))
    ({ start [0xCD#8, 0x00#8, 0x02#8] with sp := 0xFF00#16 }) = some (0x0200#16, 0xFEFE#16, 0x03#8, 0x01#8) := by decide

/-- CR1: CALL with SP = 0x0001 wraps the pushes. -/
theorem test_call_wraps : after (fun t => (t.pc, t.sp, t.mem.read 0x0000, t.mem.read 0xFFFF))
    ({ start [0xCD#8, 0x00#8, 0x02#8] with sp := 0x0001#16 }) = some (0x0200#16, 0xFFFF#16, 0x01#8, 0x03#8) := by decide

/-- CR4: RET. -/
theorem test_ret : after (fun t => (t.pc, t.sp))
    ({ startAt 0x0200#16 [0xC9#8] with
       sp := 0xFEFE#16, mem := ((Memory.writeBytes [] 0x0200 [0xC9#8]).write 0xFEFE 0x03#8).write 0xFEFF 0x01#8 }) =
      some (0x0103#16, 0xFF00#16) := by decide

/-- CR5: RET with SP = 0xFFFF. -/
theorem test_ret_wraps : after (fun t => (t.pc, t.sp))
    ({ start [0xC9#8] with
       sp := 0xFFFF#16, mem := ((Memory.writeBytes [] 0x0100 [0xC9#8]).write 0xFFFF 0x34#8).write 0x0000 0x12#8 }) =
      some (0x1234#16, 0x0001#16) := by decide

/-! ## One step: system and halts (95_test_vectors.md 2.8) -/

/-- SY1: DI. -/
theorem test_di : after (fun t => (t.iff, t.pc)) ({ startAt 0x0010#16 [0xF3#8] with iff := true }) =
    some (false, 0x0011#16) := by decide

/-- SY3: EX AF,AF'. -/
theorem test_ex_af : after (fun t => (t.regs.a, t.regs.f.toByte, t.shadow.a, t.shadow.f.toByte, t.pc))
    ({ start [0x08#8] with
       regs := { RegSet.zero with a := 0x12#8, f := Flags.fromByte 0x41#8 },
       shadow := { RegSet.zero with a := 0x34#8, f := Flags.fromByte 0x80#8 } }) =
      some (0x34#8, 0x80#8, 0x12#8, 0x41#8, 0x0101#16) := by decide

/-- SY5: F.H survives the exchange. -/
theorem test_ex_af_half_carry : after (fun t => (t.regs.f.toByte, t.shadow.f.h))
    ({ start [0x08#8] with regs := { RegSet.zero with f := { Flags.none with h := true } } }) =
      some (0x00#8, true) := by decide

/-- SY6: HALT halts, PC frozen. -/
theorem test_halt_frozen : after (fun t => (t.status, t.pc)) (startAt 0x0005#16 [0x76#8]) =
    some (.halted (.unimplemented .halt), 0x0005#16) := by decide

/-- SY6 under `HALT_PC = Advanced`. -/
theorem test_halt_advanced : after (fun t => (t.status, t.pc))
    ({ startAt 0x0005#16 [0x76#8] with params := ⟨.at0000, .advanced, .zeroFill⟩ }) =
      some (.halted (.unimplemented .halt), 0x0006#16) := by decide

/-- SY7: LD A,0x12 halts and writes nothing. -/
theorem test_ld_halts : after (fun t => (t.status, t.regs.a, t.pc)) (startAt 0x0005#16 [0x3E#8, 0x12#8]) =
    some (.halted (.unimplemented (.ldRN .a)), 0x00#8, 0x0005#16) := by decide

/-- SY10: DD 21 halts as Invalid. -/
theorem test_prefix_halts : after (fun t => (t.status, t.ix, t.pc)) (startAt 0x0005#16 [0xDD#8, 0x21#8, 0x34#8, 0x12#8]) =
    some (.halted (.invalid 0xDD#8 0x21#8), 0x0000#16, 0x0005#16) := by decide

/-- M1: the window at the top of memory, `ZeroFill` and `Wrap`. -/
theorem test_window_top :
    [WindowTop.zeroFill, WindowTop.wrap].map
      (fun wt => after (fun t => t.pc)
        ({ State.reset with
           pc := 0xFFFE#16, params := ⟨.at0000, .frozen, wt⟩,
           mem := [(0x0000, 0x12#8), (0xFFFE, 0xC3#8), (0xFFFF, 0x34#8)] })) =
    [some 0x0034#16, some 0x1234#16] := by decide

/-- M6: INC (HL) overwrites itself; the new Byte stands for the next fetch. -/
theorem test_self_modify : after (fun t => (t.mem.read 0x0100, t.pc))
    ({ start [0x34#8] with regs := { RegSet.zero with h := 0x01#8 } }) = some (0x35#8, 0x0101#16) := by decide

/-! ## Reset, host and loop (95_test_vectors.md 2.2, 2.3, 2.9) -/

/-- RS1, RS2: the two entry addresses. -/
theorem test_reset_pc : [ResetPc.at0000, ResetPc.at0010].map
    (fun e => (hardReset (State.created (Params.decided e))).pc) = [0x0000#16, 0x0010#16] := by decide

/-- RS4: no step before the reset. -/
theorem test_created_refused : after (fun t => t.pc) (State.created (Params.decided .at0000)) = none := by decide

/-- RS6: a pending stop request wins. -/
theorem test_stop_request : after (fun t => (t.status, t.stopReq, t.pc))
    ({ start [0x76#8] with status := .running, stopReq := true }) = some (.stopped, false, 0x0100#16) := by decide

/-- RS7: a NOP inside run() leaves Running, outside it Ready. -/
theorem test_continue_status :
    [Status.running, Status.ready, Status.stopped, Status.halted (.invalid 0xCB#8 0x07#8)].map
      (fun st => after (fun t => t.status) ({ start [0x00#8] with status := st })) =
    [some .running, some .ready, some .ready, some .ready] := by decide

/-- M5: the second image leaves the Byte above it. -/
theorem test_load_twice : (loadImage [0xCC#8] (loadImage [0xAA#8, 0xBB#8] State.reset)).mem =
    [(0, 0xCC#8), (1, 0xBB#8)] := by decide

/-- S3: push8 at SP = 0x0000 wraps. -/
theorem test_push_wraps : ((State.reset.push8 0xA5#8).sp, (State.reset.push8 0xA5#8).mem.read 0xFFFF) =
    (0xFFFF#16, 0xA5#8) := by decide

/-- FL1: the host writes F as 0xFF and reads 0xEF. -/
theorem test_host_f : hostReadF .primary (hostWriteF .primary 0xFF#8 State.reset) = 0xEF#8 := by decide

/-- A word placed at the reset PC runs as the first instruction. -/
theorem test_fetch_word : after (fun t => t.pc) (State.reset.withFetchWord 24 0x1234C3) = some 0x1234#16 := by decide

/-- A host action inside run() other than the stop request is not permitted (60_exceptions.md R166). -/
theorem test_permits : [permits .running .hardReset, permits .running .requestStop, permits .created .run,
    permits (.halted (.invalid 0xCB#8 0x07#8)) .run] = [false, true, false, true] := by decide

/-- The memory of a test state is in the canonical form; a descending list, a listed 0x00 and an address too high are not. -/
theorem test_memory_wf : [Memory.wf [(1, 2#8), (5, 1#8)], Memory.wf [(5, 1#8), (1, 2#8)], Memory.wf [(1, 0#8)],
    Memory.wf [(65536, 1#8)]] = [true, false, false, false] := by decide

/-! ## Witnesses: values that meet the hypotheses of each statement that has some, at the boundaries of their ranges -/

theorem witness_NopAdvancesPcOnly : (Window.mk 0x00#8 0xFF#8 0xFF#8 0x00#8).b0 = 0b00000000#8 := by decide
theorem witness_JpGoesToNn : (Window.mk 0xC3#8 0xFF#8 0xFF#8 0x00#8).b0 = 0b11000011#8 := by decide
theorem witness_JrGoesBySignedDisplacement : (Window.mk 0x18#8 0xFF#8 0xFF#8 0x00#8).b0 = 0b00011000#8 := by decide
theorem witness_CallPushesReturnAddressAndJumps : (Window.mk 0xCD#8 0xFF#8 0xFF#8 0x00#8).b0 = 0b11001101#8 := by decide
theorem witness_RetPopsPc : (Window.mk 0xC9#8 0xFF#8 0xFF#8 0x00#8).b0 = 0b11001001#8 := by decide
theorem witness_DiClearsLatchOnly : (Window.mk 0xF3#8 0xFF#8 0xFF#8 0x00#8).b0 = 0b11110011#8 := by decide
theorem witness_AndImmediateResultAndFlags : (Window.mk 0xE6#8 0xFF#8 0xFF#8 0x00#8).b0 = 0b11100110#8 := by decide
theorem witness_OrImmediateResultAndFlags : (Window.mk 0xF6#8 0xFF#8 0xFF#8 0x00#8).b0 = 0b11110110#8 := by decide
theorem witness_XorImmediateResultAndFlags : (Window.mk 0xEE#8 0xFF#8 0xFF#8 0x00#8).b0 = 0b11101110#8 := by decide
theorem witness_CompareImmediateFlags : (Window.mk 0xFE#8 0xFF#8 0xFF#8 0x00#8).b0 = 0b11111110#8 := by decide
theorem witness_RrcaRotatesIntoCarry : (Window.mk 0x0F#8 0xFF#8 0xFF#8 0x00#8).b0 = 0b00001111#8 := by decide
theorem witness_JpCcGoesToNnIfConditionHolds : (Window.mk 0xC2#8 0#8 0#8 0#8).b0 = 0b11#2 ++ 0#3 ++ 0b010#3 ∧
    (Window.mk 0xFA#8 0#8 0#8 0#8).b0 = 0b11#2 ++ 7#3 ++ 0b010#3 := by decide
theorem witness_IncrementResultAndFlags : (Window.mk 0x04#8 0#8 0#8 0#8).b0 = 0b00#2 ++ 0#3 ++ 0b100#3 ∧
    (Window.mk 0x3C#8 0#8 0#8 0#8).b0 = 0b00#2 ++ 7#3 ++ 0b100#3 := by decide
theorem witness_DecrementResultAndFlags : (Window.mk 0x05#8 0#8 0#8 0#8).b0 = 0b00#2 ++ 0#3 ++ 0b101#3 ∧
    (Window.mk 0x3D#8 0#8 0#8 0#8).b0 = 0b00#2 ++ 7#3 ++ 0b101#3 := by decide
theorem witness_JrCcGoesBySignedDisplacementIfConditionHolds : (Window.mk 0x20#8 0#8 0#8 0#8).b0 = 0b001#3 ++ 0#2 ++ 0b000#3 ∧
    (Window.mk 0x38#8 0#8 0#8 0#8).b0 = 0b001#3 ++ 3#2 ++ 0b000#3 := by decide
theorem witness_AndRegisterResultAndFlags : (Window.mk 0xA0#8 0#8 0#8 0#8).b0 = 0b10100#5 ++ 0#3 ∧
    (Window.mk 0xA7#8 0#8 0#8 0#8).b0 = 0b10100#5 ++ 7#3 := by decide
theorem witness_OrRegisterResultAndFlags : (Window.mk 0xB0#8 0#8 0#8 0#8).b0 = 0b10110#5 ++ 0#3 ∧
    (Window.mk 0xB7#8 0#8 0#8 0#8).b0 = 0b10110#5 ++ 7#3 := by decide
theorem witness_XorRegisterResultAndFlags : (Window.mk 0xA8#8 0#8 0#8 0#8).b0 = 0b10101#5 ++ 0#3 ∧
    (Window.mk 0xAF#8 0#8 0#8 0#8).b0 = 0b10101#5 ++ 7#3 := by decide
theorem witness_CompareRegisterFlags : (Window.mk 0xB8#8 0#8 0#8 0#8).b0 = 0b10111#5 ++ 0#3 ∧
    (Window.mk 0xBF#8 0#8 0#8 0#8).b0 = 0b10111#5 ++ 7#3 := by decide
theorem witness_NopAdvancesPcOnly_run : ({ State.reset with status := .running } : State).mem = [] ∧
    ({ State.reset with status := .running } : State).stopReq = false := by decide
theorem witness_ExchangeSwapsAccumulatorAndFlags : (Window.mk 0x08#8 0#8 0#8 0#8).b0 = 0b00001000#8 ∧
    ∃ t u : State, exec .exAfAf State.reset = .next t ∧ exec .exAfAf t = .next u := ⟨by decide, _, _, rfl, rfl⟩
theorem witness_UnimplementedHaltsWithItsTag : Instr.halt.tag.cls = .unimplemented ∧
    (Instr.ldBcNn 0xFFFF#16).tag.cls = .unimplemented ∧ Instr.rst38.tag.cls = .unimplemented := by decide
theorem witness_PrefixedWindowHaltsAsInvalid : ∀ p ∈ [0xCB#8, 0xDD#8, 0xED#8, 0xFD#8],
    (Window.mk p 0xFF#8 0#8 0#8).b0 = 0xCB#8 ∨ (Window.mk p 0xFF#8 0#8 0#8).b0 = 0xDD#8 ∨
    (Window.mk p 0xFF#8 0#8 0#8).b0 = 0xED#8 ∨ (Window.mk p 0xFF#8 0#8 0#8).b0 = 0xFD#8 := by decide
theorem witness_PushThenPopRestores : (0xFFFF#16 : Word) ≠ State.reset.sp - 2#16 := by decide
theorem witness_CallFrame : (0x0000#16 : Word) ≠ State.reset.sp - 1#16 ∧ (0x0000#16 : Word) ≠ State.reset.sp - 2#16 := by decide
theorem witness_CallThenRetRestoresPc : ∃ t : State, exec (.callNn 0x0200#16) State.reset = .next t ∧
    ({ t with iff := true } : State).sp = t.sp ∧ ({ t with iff := true } : State).readByte t.sp = t.readByte t.sp ∧
    ({ t with iff := true } : State).readByte (t.sp + 1#16) = t.readByte (t.sp + 1#16) :=
  ⟨_, rfl, rfl, rfl, rfl⟩
theorem witness_LoadRejectsLongImage : 65536 < (List.replicate 65537 0x00#8).length := by
  rw [List.length_replicate]; omega
theorem witness_LoadThenReadReturnsImage : [0x3E#8, 0x01#8].length ≤ 65536 ∧ 0 < [0x3E#8, 0x01#8].length ∧
    1 < [0x3E#8, 0x01#8].length ∧ (List.replicate 65536 0x00#8).length ≤ 65536 :=
  ⟨by decide, by decide, by decide, by rw [List.length_replicate]⟩
theorem witness_StepKeepsMemoryCanonicalAndOperational : Canonical State.reset ∧
    ∃ t : State, step State.reset = .next t := ⟨by decide, _, rfl⟩
theorem witness_HostActionKeepsInvariant : Canonical State.reset ∧ Operational State.reset ∧
    ∃ t : State, hostAct (.load [0xAA#8]) State.reset = .next t := ⟨by decide, by decide, _, rfl⟩
theorem witness_EveryHistoryKeepsInvariant : Canonical State.reset ∧ Operational State.reset ∧
    ∃ t : State, applyEvents [.host (.load [0x3C#8]), .move, .host .run, .move] State.reset = .next t :=
  ⟨by decide, by decide, _, rfl⟩
theorem witness_EncodeOfDecodedIsTheWindow : decodeInstr ⟨0xCD#8, 0x00#8, 0x02#8, 0xFF#8⟩ = .ok (.callNn 0x0200#16) := by decide
theorem witness_LengthEqualsBytesConsumed : (Instr.andN 0xFF#8).usedPrefix = false ∧ inS (.andN 0xFF#8) = true ∧
    transfersControl (.andN 0xFF#8) = false ∧ ∃ t : State, exec (.andN 0xFF#8) State.reset = .next t :=
  ⟨by decide, by decide, by decide, _, rfl⟩
theorem witness_StepRunsDecodedInstruction : State.reset.status ≠ .created ∧
    ¬(State.reset.status = .running ∧ State.reset.stopReq = true) ∧ decodeInstr (fetchWindow State.reset) = .ok .nop := by decide
theorem witness_PlacedWordIsFetchedAndRun : (startAt 0xFFFC#16 []).pc.toNat ≤ 0xFFFC ∧
    decodeTableWord 24 0x0200CD = some (.callNn 0x0200#16) := by decide
theorem witness_StepStatusFollowsTheLoop : (∃ t : State, step State.reset = .next t) ∧
    ∃ t : State, step { State.reset with status := .running, stopReq := true } = .next t := ⟨⟨_, rfl⟩, _, rfl⟩
theorem witness_StepStopsOnlyBeforeReset : (State.created (Params.decided .at0010)).status = .created ∧
    State.reset.status ≠ .created := by decide
theorem witness_HaltedStepHaltsAgain : (start [0x76#8]).params.haltPc = .frozen ∧
    ∃ t : State, step (start [0x76#8]) = .next t ∧ t.status = .halted (.unimplemented .halt) := ⟨by decide, _, rfl, rfl⟩
theorem witness_UndefinedFlagBitsAreKept : Instr.xorA ≠ .exAfAf ∧ ∃ t : State, exec .xorA State.reset = .next t :=
  ⟨by decide, _, rfl⟩
theorem witness_HalfCarryAndSubtractAreUnread : Instr.cpB ≠ .exAfAf := by decide
theorem witness_RegisterFrameOfEveryInstruction : (∃ t : State, exec .incB State.reset = .next t) ∧
    Operand8.c ≠ .memHl ∧ writtenOperand .incB ≠ some .c ∧ writesFlags (.jrD 0x80#8) = false ∧ Instr.incB ≠ .exAfAf ∧
    Instr.incB.tag ≠ .call ∧ Instr.incB ≠ .ret ∧ Instr.incB ≠ .di ∧ inS .incB = true :=
  ⟨⟨_, rfl⟩, by decide, by decide, by decide, by decide, by decide, by decide, by decide, by decide⟩
theorem witness_MemoryFrameOfEveryInstruction : (∃ t : State, exec (.callNn 0#16) State.reset = .next t) ∧
    (0x0000#16 : Word) ∉ storedAddresses (.callNn 0#16) State.reset := ⟨⟨_, rfl⟩, by decide⟩
theorem witness_MemoryOperandIsUpdatedInPlace : (0xFFFF#16 : Word) ≠ State.reset.hl := by decide
theorem witness_DrawsAreFreshAndOnlyWhereNamed : (∃ t : State, exec (.orN 0#8) State.reset = .next t) ∧
    (∃ t : State, exec .cpA State.reset = .next t) ∧ ∃ t : State, exec .decMemHl State.reset = .next t :=
  ⟨⟨_, rfl⟩, ⟨_, rfl⟩, _, rfl⟩
theorem witness_HostAccessorsReadBackWhatTheyWrote :
    FlagSlot.primary ≠ .shadow ∧ (0xFFFF : Nat) < 0x10000 ∧
    hostReadByteReg (.shadow .l) (hostWriteByteReg (.shadow .l) 0xFF#8 State.reset) = 0xFF#8 ∧
    hostReadWordReg .iy (hostWriteWordReg .iy 0xFFFF#16 State.reset) = 0xFFFF#16 ∧
    hostReadFlag .shadow .c (hostWriteFlag .shadow .c true State.reset) = true ∧
    hostReadF .shadow (hostWriteF .shadow 0xFF#8 State.reset) = 0xEF#8 ∧
    hostReadIff (hostWriteIff true State.reset) = true ∧
    hostReadMem 0xFFFF (hostWriteMem 0xFFFF 1#8 State.reset) = 1#8 ∧
    hostWriteMem 0x10000 1#8 State.reset = State.reset :=
  ⟨by decide, by decide, rfl, rfl, rfl, rfl, rfl, by decide, rfl⟩
theorem witness_HostActsOnlyWherePermitted : ({ State.reset with status := .running } : State).status = .running ∧
    HostAction.hardReset ≠ .requestStop ∧ (State.created (Params.decided .at0000)).status = .created ∧
    (State.created (Params.decided .at0000)).status ≠ .running ∧
    State.reset.status ≠ .created ∧ State.reset.status ≠ .running := by decide
theorem witness_StepHookExecutesItsTriple : State.reset.status ≠ .created ∧ State.reset.status ≠ .running ∧
    (Decoded.mk .di 1 false).wf = true ∧ (Decoded.mk .di 1 false).tag ≠ .invalid ∧
    (Decoded.mk .invalid 1 true).wf = true ∧ (Decoded.mk .nop 2 false).wf = false ∧
    hostAct (.stepInstr (Decoded.mk .di 1 false)) State.reset = .next { State.reset with pc := 1#16 } :=
  ⟨by decide, by decide, by decide, by decide, by decide, by decide, rfl⟩
theorem witness_RunStopsAtThePendingRequest : ({ State.reset with stopReq := true } : State).status ≠ .created ∧
    ({ State.reset with stopReq := true } : State).status ≠ .running ∧
    ({ State.reset with stopReq := true } : State).stopReq = true := by decide
theorem witness_RunIsStepsUntilItEnds : ({ State.reset with status := .running } : State).status = .running ∧
    (∃ t : State, step { State.reset with status := .running } = .next t) ∧
    ∃ t : State, runLoop 1 { State.reset with status := .running, stopReq := true } = .next t ∧ t.status ≠ .running :=
  ⟨rfl, ⟨_, rfl⟩, _, rfl, nofun⟩

end Sys2Proof.Tests
end

section
/-! The stack's Byte operations and the load port's rejection (spec/20_memory.md R54, R65). -/

namespace Sys2Proof.Machine

/-- Only the Byte at the pre-decremented SP changes (20_memory.md R54, R59). -/
@[simp] theorem State.readByte_push8 (s : State) (v : Byte) (a : Word) :
    (s.push8 v).readByte a = if a = s.sp - 1#16 then v else s.readByte a :=
  Memory.read_write_word s.mem (s.sp - 1#16) a v

theorem State.pop8Value_push8 (s : State) (v : Byte) : (s.push8 v).pop8Value = v := by
  simp [State.pop8Value]

/-- The decrement and the increment cancel modulo 65536, so SP = 0x0000 is no special case. -/
theorem State.sp_pop8_push8 (s : State) (v : Byte) : (s.push8 v).pop8.sp = s.sp := by
  rw [State.pop8_sp, State.push8_sp, BitVec.sub_add_cancel]

theorem imageFits_eq_false_iff (img : List Byte) : imageFits img = false ↔ 65536 < img.length := by
  rw [imageFits, decide_eq_false_iff_not, not_le]

theorem loadReply_of_not_fits {img : List Byte} (h : imageFits img = false) : loadReply img = .failure := by
  simp [loadReply, h]

theorem loadImage_of_not_fits {img : List Byte} (s : State) (h : imageFits img = false) : loadImage img s = s := by
  simp [loadImage, h]

/-- Settles O24: a read after push8 is a read after one Byte's write, and the two steps of SP cancel. -/
theorem pushThenPopRestores : Obligations.PushThenPopRestores := by
  intro v s
  have pushed : (s.push8 v).readByte (s.sp - 1#16) = v := by simp
  have kept (a : Word) (ha : a ≠ s.sp - 1#16) : (s.push8 v).readByte a = s.readByte a := by simp [ha]
  exact ⟨State.push8_sp s v, pushed, kept, rfl, rfl, rfl, State.pop8Value_push8 s v, State.sp_pop8_push8 s v⟩

/-- Settles O26: an image that does not fit takes the failing branch of the report and of the effect. -/
theorem loadRejectsLongImage : Obligations.LoadRejectsLongImage := by
  intro img s hlong
  have hfit : imageFits img = false := (imageFits_eq_false_iff img).mpr hlong
  have hload : loadImage img s = s := loadImage_of_not_fits s hfit
  exact ⟨loadReply_of_not_fits hfit, hload, congrArg Host.Outcome.next hload⟩

end Sys2Proof.Machine
end

section
/-! The Decoder on an opcode Byte given by its fields or as an instruction's opcode (spec/30_encoding.md R73, R81, R85). -/

namespace Sys2Proof

@[simp] theorem fieldX_append (x : BitVec 2) (y z : BitVec 3) : fieldX (x ++ y ++ z) = x := by
  rw [fieldX, BitVec.extractLsb'_append_eq_of_le (by decide)]
  exact BitVec.extractLsb'_append_eq_left

@[simp] theorem fieldY_append (x : BitVec 2) (y z : BitVec 3) : fieldY (x ++ y ++ z) = y := by
  rw [fieldY, BitVec.extractLsb'_append_eq_of_le (by decide)]
  exact BitVec.extractLsb'_append_eq_right

@[simp] theorem fieldZ_append (x : BitVec 2) (y z : BitVec 3) : fieldZ (x ++ y ++ z) = z :=
  BitVec.extractLsb'_append_eq_right

/-- The four Bytes 0xCB, 0xDD, 0xED and 0xFD lie in the quarter x = 3 (30_encoding.md R80). -/
theorem fieldX_of_isPrefixByte {b : Byte} (h : isPrefixByte b = true) : fieldX b = 3#2 := by
  simp only [isPrefixByte, Bool.or_eq_true, beq_iff_eq] at h
  obtain ((rfl | rfl) | rfl) | rfl := h <;> rfl

/-- Outside the quarter x = 3 the tag of the unprefixed table fixes the triple and the instruction (30_encoding.md R85). -/
theorem decodes_of_fields {win : Window} {x : BitVec 2} {y z : BitVec 3} {t : Tag} (hb : win.b0 = x ++ y ++ z)
    (hx : x ≠ 3#2) (ht : unprefixedTag (x ++ y ++ z) = t) :
    decodeInstr win = assemble t win ∧ decode win = ⟨t, t.len, false⟩ := by
  have hp : ¬isPrefixByte win.b0 = true := by
    intro h
    have h3 := fieldX_of_isPrefixByte h
    rw [hb, fieldX_append] at h3
    exact hx h3
  have hd : decode win = ⟨t, t.len, false⟩ := by rw [decode, if_neg hp, hb, ht]
  exact ⟨by rw [decodeInstr, hd], hd⟩

/-- The quarter x = 0 (30_encoding.md R81, R82). -/
theorem decodes_quarter0 {win : Window} {y z : BitVec 3} (hb : win.b0 = 0#2 ++ y ++ z) :
    decodeInstr win = assemble (tagX0 z y) win ∧ decode win = ⟨tagX0 z y, (tagX0 z y).len, false⟩ :=
  decodes_of_fields hb (by decide) (by simp [unprefixedTag])

/-- The quarter x = 2 (30_encoding.md R81, R82). -/
theorem decodes_quarter2 {win : Window} {y z : BitVec 3} (hb : win.b0 = 2#2 ++ y ++ z) :
    decodeInstr win = assemble (tagX2 z y) win ∧ decode win = ⟨tagX2 z y, (tagX2 z y).len, false⟩ :=
  decodes_of_fields hb (by decide) (by simp [unprefixedTag])

/-- A window that begins with an instruction's opcode Byte has its triple, whatever Bytes follow (30_encoding.md R85). -/
theorem decodes_of_opcode {win : Window} {i : Instr} (hi : Laws.OpcodeTag.Statement i) (hb : win.b0 = i.opcode) :
    decodeInstr win = assemble i.tag win ∧ decode win = i.triple := by
  have hd : decode win = i.triple := by
    obtain ⟨b0, b1, b2, b3⟩ := win
    subst hb
    exact hi b1 b2 b3
  exact ⟨by rw [decodeInstr, hd, Instr.triple], hd⟩

end Sys2Proof
end

section
/-! AND, OR, XOR and CP: the next state in the words of the flag policy (spec/40_alu.md R101 to R109). -/

namespace Sys2Proof.Machine

theorem andFlags_eq (res : Byte) (f : Flags) : andFlags res f =
    { f with s := res.getLsbD 7, z := decide (res = 0#8), h := true, pv := false, n := false, c := false } := rfl

theorem orxorFlags_eq (res : Byte) (pv : Bool) (f : Flags) : orxorFlags res pv f =
    { f with s := res.getLsbD 7, z := decide (res = 0#8), h := false, pv := pv, n := false, c := false } := rfl

/-- The borrow is the unsigned comparison of A with the operand. -/
theorem cpFlags_eq (a v : Byte) (pv : Bool) (f : Flags) : cpFlags a v pv f =
    { f with s := (a - v).getLsbD 7, z := decide (a - v = 0#8), h := (a - v).getLsbD 5, pv := pv, n := true,
             c := decide (a.toNat < v.toNat) } := by
  rw [cpFlags, BitVec.ult_eq_decide]
  rfl

/-- What AND after the advance of PC leaves, for the register and the immediate form alike. -/
theorem logicAnd_advance (v : Byte) (s : State) (len : Nat) : logicAnd v (s.advance len) =
    { s with
      pc := s.pc + BitVec.ofNat 16 len,
      regs := { s.regs with a := s.regs.a &&& v, f := andFlags (s.regs.a &&& v) s.regs.f } } :=
  logicAnd_eq v (s.advance len)

/-- What OR and XOR with result `res` after the advance of PC leave: F.PV is the next draw. -/
theorem logicOrXor_advance (res : Byte) (s : State) (len : Nat) : logicOrXor res (s.advance len) =
    { s with
      pc := s.pc + BitVec.ofNat 16 len, drawCount := s.drawCount + 1,
      regs := { s.regs with a := res, f := orxorFlags res (Config.drawPvLogic s.drawCount) s.regs.f } } :=
  logicOrXor_eq res (s.advance len)

/-- What CP after the advance of PC leaves: F.PV is the next draw. -/
theorem compareA_advance (v : Byte) (s : State) (len : Nat) : compareA v (s.advance len) =
    { s with
      pc := s.pc + BitVec.ofNat 16 len, drawCount := s.drawCount + 1,
      regs := { s.regs with f := cpFlags s.regs.a v (Config.drawPvCp s.drawCount) s.regs.f } } :=
  compareA_eq v (s.advance len)

/-- Settles O10: the row is y = 4 of the quarter x = 2; the operand is not changed by the advance of PC. -/
theorem andRegisterResultAndFlags : Obligations.AndRegisterResultAndFlags := by
  refine ⟨fun z win hb => decodes_quarter2 (y := 4#3) hb, fun r s => ?_⟩
  rw [exec_andR, andReg, readR_advance, logicAnd_advance, andFlags_eq]

/-- Settles O11: the register form's effect with the Byte after the opcode as operand. -/
theorem andImmediateResultAndFlags : Obligations.AndImmediateResultAndFlags := by
  refine ⟨fun win hb => decodes_of_opcode (Laws.OpcodeTag.andN win.b1) hb, fun n s => ?_⟩
  rw [exec_andN, logicAnd_advance, andFlags_eq]

/-- Settles O12: the row is y = 6 of the quarter x = 2; PV is the next draw. -/
theorem orRegisterResultAndFlags : Obligations.OrRegisterResultAndFlags := by
  refine ⟨fun z win hb => decodes_quarter2 (y := 6#3) hb,
    fun r s => ⟨Config.drawPvLogic s.drawCount, s.drawCount + 1, ?_⟩⟩
  rw [exec_orR, orReg, readR_advance, State.advance_regs, logicOrXor_advance, orxorFlags_eq]

/-- Settles O13: the register form's effect with the Byte after the opcode as operand. -/
theorem orImmediateResultAndFlags : Obligations.OrImmediateResultAndFlags := by
  refine ⟨fun win hb => decodes_of_opcode (Laws.OpcodeTag.orN win.b1) hb,
    fun n s => ⟨Config.drawPvLogic s.drawCount, s.drawCount + 1, ?_⟩⟩
  rw [exec_orN, logicOrXor_advance, orxorFlags_eq]

/-- Settles O14: the row is y = 5 of the quarter x = 2; PV is the next draw. -/
theorem xorRegisterResultAndFlags : Obligations.XorRegisterResultAndFlags := by
  refine ⟨fun z win hb => decodes_quarter2 (y := 5#3) hb,
    fun r s => ⟨Config.drawPvLogic s.drawCount, s.drawCount + 1, ?_⟩⟩
  rw [exec_xorR, xorReg, readR_advance, State.advance_regs, logicOrXor_advance, orxorFlags_eq]

/-- Settles O15: the register form's effect with the Byte after the opcode as operand. -/
theorem xorImmediateResultAndFlags : Obligations.XorImmediateResultAndFlags := by
  refine ⟨fun win hb => decodes_of_opcode (Laws.OpcodeTag.xorN win.b1) hb,
    fun n s => ⟨Config.drawPvLogic s.drawCount, s.drawCount + 1, ?_⟩⟩
  rw [exec_xorN, logicOrXor_advance, orxorFlags_eq]

/-- Settles O16: the row is y = 7 of the quarter x = 2; only F, PC and the draw counter are written. -/
theorem compareRegisterFlags : Obligations.CompareRegisterFlags := by
  refine ⟨fun z win hb => decodes_quarter2 (y := 7#3) hb,
    fun r s => ⟨Config.drawPvCp s.drawCount, s.drawCount + 1, ?_⟩⟩
  rw [exec_cpR, cpReg, readR_advance, compareA_advance, cpFlags_eq]

/-- Settles O17: the register form's effect with the Byte after the opcode as operand. -/
theorem compareImmediateFlags : Obligations.CompareImmediateFlags := by
  refine ⟨fun win hb => decodes_of_opcode (Laws.OpcodeTag.cpN win.b1) hb,
    fun n s => ⟨Config.drawPvCp s.drawCount, s.drawCount + 1, ?_⟩⟩
  rw [exec_cpN, compareA_advance, cpFlags_eq]

end Sys2Proof.Machine
end

section
/-! INC and DEC: the operand's write and the advance of PC commute (spec/40_alu.md R110, R111). -/

namespace Sys2Proof.Machine

theorem writeR_advance (r : Operand8) (v : Byte) (s : State) (len : Nat) :
    writeR r v (s.advance len) = (writeR r v s).advance len := by
  cases r <;> rfl

theorem incFlags_eq (old new : Byte) (half : Bool) (f : Flags) : incFlags old new half f =
    { f with s := new.getLsbD 7, z := decide (new = 0#8), h := half, pv := decide (old = 0x7F#8), n := false } := rfl

theorem decFlags_eq (old new : Byte) (half : Bool) (f : Flags) : decFlags old new half f =
    { f with s := new.getLsbD 7, z := decide (new = 0#8), h := half, pv := decide (old = 0x80#8), n := true } := rfl

/-- What the write of an operand, F replaced and one draw leave after the advance of PC: INC's and DEC's effect but for the
new value and the flags. -/
theorem writeR_setFlags_nextDraw_advance (r : Operand8) (v : Byte) (f : Flags) (s : State) (len : Nat) :
    ((writeR r v (s.advance len)).setFlags f).nextDraw =
    { writeR r v s with
      pc := s.pc + BitVec.ofNat 16 len, drawCount := s.drawCount + 1,
      regs := { (writeR r v s).regs with f := f } } := by
  rw [writeR_advance, ← writeR_pc s r v, ← writeR_drawCount s r v]
  rfl

/-- Settles O18: the row is z = 4 of the quarter x = 0; H is the next draw. -/
theorem incrementResultAndFlags : Obligations.IncrementResultAndFlags := by
  refine ⟨fun y win hb => decodes_quarter0 (z := 4#3) hb,
    fun r s => ⟨Config.drawHIncDec s.drawCount, s.drawCount + 1, ?_⟩⟩
  rw [exec_incR, incrementR, readR_advance, writeR_setFlags_nextDraw_advance, incFlags_eq, State.advance_regs,
    State.advance_drawCount]

/-- Settles O19: the row is z = 5 of the quarter x = 0; H is the next draw. -/
theorem decrementResultAndFlags : Obligations.DecrementResultAndFlags := by
  refine ⟨fun y win hb => decodes_quarter0 (z := 5#3) hb,
    fun r s => ⟨Config.drawHIncDec s.drawCount, s.drawCount + 1, ?_⟩⟩
  rw [exec_decR, decrementR, readR_advance, writeR_setFlags_nextDraw_advance, decFlags_eq, State.advance_regs,
    State.advance_drawCount]

end Sys2Proof.Machine
end

section
/-! RRCA: the rotation as shifts, and bit by bit when repeated (spec/40_alu.md R112). -/

namespace Sys2Proof.Machine

/-- Only bit 0 survives a shift by 7, so masking it first changes nothing. -/
theorem rotateRight_one_eq_shifts (v : Byte) : v.rotateRight 1 = (v >>> 1) ||| ((v &&& 1#8) <<< 7) := by
  have hmask : (v &&& 1#8) <<< 7 = v <<< 7 := by
    ext k hk
    by_cases h7 : k < 7
    · simp [h7]
    · obtain rfl : k = 7 := by omega
      simp
  rw [hmask]
  exact BitVec.rotateRight_def

theorem getLsbD_rotateRight_one (v : Byte) {k : Nat} (hk : k < 8) :
    (v.rotateRight 1).getLsbD k = v.getLsbD ((k + 1) % 8) := by
  by_cases h7 : k < 7
  · have hmod : (k + 1) % 8 = 1 + k := by omega
    simp [BitVec.getLsbD_rotateRight, h7, hmod]
  · obtain rfl : k = 7 := by omega
    simp

/-- RRCA writes A and F, and PC. -/
theorem rotateRightA_advance (s : State) (len : Nat) : rotateRightA (s.advance len) =
    { s with
      pc := s.pc + BitVec.ofNat 16 len,
      regs := { s.regs with a := s.regs.a.rotateRight 1, f := rrcaFlags (s.regs.a.getLsbD 0) s.regs.f } } := rfl

/-- After `n` RRCA in a row bit k of A is the bit that stood `n` places higher, modulo 8. -/
theorem repeatExec_rrca (n : Nat) (s : State) : ∃ t : State, repeatExec n .rrca s = .next t ∧
    ∀ k < 8, t.regs.a.getLsbD k = s.regs.a.getLsbD ((k + n) % 8) := by
  induction n generalizing s with
  | zero => exact ⟨s, rfl, fun k hk => by rw [Nat.add_zero, Nat.mod_eq_of_lt hk]⟩
  | succ n ih =>
    obtain ⟨t, hrun, hbits⟩ := ih (rotateRightA (s.advance 1))
    refine ⟨t, by rw [repeatExec, exec_rrca]; exact hrun, fun k hk => ?_⟩
    have hlt : (k + n) % 8 < 8 := Nat.mod_lt _ (by decide)
    calc t.regs.a.getLsbD k
        = (s.regs.a.rotateRight 1).getLsbD ((k + n) % 8) := by rw [hbits k hk, rotateRightA_advance]
      _ = s.regs.a.getLsbD (((k + n) % 8 + 1) % 8) := getLsbD_rotateRight_one _ hlt
      _ = s.regs.a.getLsbD ((k + (n + 1)) % 8) := by rw [Nat.mod_add_mod, Nat.add_assoc]

/-- Settles O20: eight rotations bring every bit back to its place, since the positions count modulo 8. -/
theorem rrcaRotatesIntoCarry : Obligations.RrcaRotatesIntoCarry := by
  refine ⟨fun win hb => decodes_of_opcode Laws.OpcodeTag.rrca hb, fun s => ?_, fun s => ?_⟩
  · rw [exec_rrca, rotateRightA_advance, rotateRight_one_eq_shifts, rrcaFlags]
  · obtain ⟨t, hrun, hbits⟩ := repeatExec_rrca 8 s
    refine ⟨t, hrun, BitVec.eq_of_getLsbD_eq fun k hk => ?_⟩
    rw [hbits k hk, Nat.add_mod_right, Nat.mod_eq_of_lt hk]

end Sys2Proof.Machine
end

section
/-! The Decoder on the rows of the conditional jumps (spec/30_encoding.md R77, R81, R85). -/

namespace Sys2Proof

/-- The four Bytes 0xCB, 0xDD, 0xED and 0xFD lie in the columns z = 3 and z = 5 (30_encoding.md R80). -/
theorem fieldZ_of_isPrefixByte {b : Byte} (h : isPrefixByte b = true) : fieldZ b = 3#3 ∨ fieldZ b = 5#3 := by
  simp only [isPrefixByte, Bool.or_eq_true, beq_iff_eq] at h
  obtain ((rfl | rfl) | rfl) | rfl := h
  · exact .inl rfl
  · exact .inr rfl
  · exact .inr rfl
  · exact .inr rfl

/-- The quarter x = 3 outside the columns z = 3 and z = 5 (30_encoding.md R81, R82). -/
theorem decodes_quarter3 {win : Window} {y z : BitVec 3} (hb : win.b0 = 3#2 ++ y ++ z) (h3 : z ≠ 3#3) (h5 : z ≠ 5#3) :
    decodeInstr win = assemble (tagX3 z y) win ∧ decode win = ⟨tagX3 z y, (tagX3 z y).len, false⟩ := by
  have hp : ¬isPrefixByte win.b0 = true := by
    intro h
    have hz := fieldZ_of_isPrefixByte h
    rw [hb, fieldZ_append] at hz
    exact hz.elim h3 h5
  have ht : unprefixedTag win.b0 = tagX3 z y := by simp [hb, unprefixedTag]
  have hd : decode win = ⟨tagX3 z y, (tagX3 z y).len, false⟩ := by rw [decode, if_neg hp, ht]
  exact ⟨by rw [decodeInstr, hd], hd⟩

/-- The opcode of JR cc,d by the fields x, y and z: the condition is the low two bits of y (30_encoding.md R77). -/
theorem jrCcOpcode_fields (code : BitVec 2) :
    (0b001#3 ++ code ++ 0b000#3 : Byte) = 0#2 ++ (1#1 ++ code : BitVec 3) ++ 0#3 := by
  revert code; decide

theorem tagX0_jrCc (code : BitVec 2) : tagX0 0#3 (1#1 ++ code) = .jrCc (relCondOf code) := by
  revert code; decide

end Sys2Proof
end

section
/-! The stack's Word in the rule's arithmetic, and CALL and RET after the advance of PC (spec/20_memory.md R54, R55,
spec/41_control_flow.md R134, R135). -/

namespace Sys2Proof.Machine

theorem hi8_eq_ofNat (w : Word) : hi8 w = BitVec.ofNat 8 (w.toNat / 256) := by
  rw [hi8, BitVec.extractLsb', Nat.shiftRight_eq_div_pow]

theorem lo8_eq_ofNat (w : Word) : lo8 w = BitVec.ofNat 8 (w.toNat % 256) :=
  BitVec.eq_of_toNat_eq (by simp [lo8])

theorem sub_one_sub_one (w : Word) : w - 1#16 - 1#16 = w - 2#16 := BitVec.sub_sub w 1#16 1#16

theorem add_one_add_one (w : Word) : w + 1#16 + 1#16 = w + 2#16 := BitVec.add_assoc w 1#16 1#16

/-- The two addresses a Word push stores to are different, also where SP wraps. -/
theorem sub_one_ne_sub_two (w : Word) : w - 1#16 ≠ w - 2#16 := by bv_omega

/-- Memory after `call(addr)` Byte by Byte: the high Byte of PC is above the low Byte. -/
theorem State.readByte_call (s : State) (target a : Word) : (s.call target).readByte a =
    if a = s.sp - 2#16 then lo8 s.pc else if a = s.sp - 1#16 then hi8 s.pc else s.readByte a := by
  have hpush : (s.call target).readByte a = ((s.push8 (hi8 s.pc)).push8 (lo8 s.pc)).readByte a := rfl
  rw [hpush, readByte_push8, readByte_push8, push8_sp, sub_one_sub_one]

/-- Settles O6: CALL is `call(nn)` from the advanced PC, which the advance leaves as PC + 3. -/
theorem callPushesReturnAddressAndJumps : Obligations.CallPushesReturnAddressAndJumps := by
  refine ⟨fun win hb => decodes_of_opcode (Laws.OpcodeTag.callNn (immWord win)) hb, fun nn s => ?_⟩
  have hread (a : Word) : ((s.advance 3).call nn).readByte a = if a = s.sp - 2#16 then lo8 (s.pc + 3#16)
      else if a = s.sp - 1#16 then hi8 (s.pc + 3#16) else s.readByte a :=
    State.readByte_call (s.advance 3) nn a
  refine ⟨(s.advance 3).call nn, exec_callNn nn s, rfl, sub_one_sub_one s.sp, ?_, ?_, ?_, rfl⟩
  · rw [hread, if_neg (sub_one_ne_sub_two s.sp), if_pos rfl, hi8_eq_ofNat]
  · rw [hread, if_pos rfl, lo8_eq_ofNat]
  · intro a h1 h2
    rw [hread, if_neg h2, if_neg h1]

/-- Settles O7: RET is `ret()`, which overwrites the advanced PC and reads memory at SP as it was. -/
theorem retPopsPc : Obligations.RetPopsPc := by
  refine ⟨fun win hb => decodes_of_opcode Laws.OpcodeTag.ret hb, fun s => ?_⟩
  rw [exec_ret, State.ret_eq, State.advance_sp, add_one_add_one]
  rfl

end Sys2Proof.Machine
end

section
/-! NOP and the jumps: only PC is written (spec/41_control_flow.md R130 to R133, R137). -/

namespace Sys2Proof.Machine

/-- Memory that was never written reads as NOP opcodes, under both values of `WINDOW_TOP` (10_state.md R38). -/
theorem windowByte_of_mem_empty {s : State} (h : s.mem = []) (k : Nat) : windowByte s k = 0#8 := by
  rw [windowByte, h, Memory.read_empty]

theorem fetchDecodeExecute_of_decodeInstr {s : State} {i : Instr} (h : decodeInstr (fetchWindow s) = .ok i) :
    fetchDecodeExecute s = exec i s := by
  rw [fetchDecodeExecute, h]

/-- Inside `run()` without a stop request a step is one round of the Loop; the status is already in place
(60_exceptions.md R164). -/
theorem step_running {s : State} (h : s.status = .running) (hs : s.stopReq = false) : step s = fetchDecodeExecute s := by
  have hstatus : continueStatus s.status = s.status := by rw [h, continueStatus]
  rw [step_instruction s (by simp [h]) (by simp [hs]), stepInstruction, hstatus]
  rfl

/-- Settles O1: a window of memory that was never written begins with 0x00. -/
theorem nopAdvancesPcOnly : Obligations.NopAdvancesPcOnly := by
  have hdec (win : Window) (hb : win.b0 = 0b00000000#8) : decodeInstr win = .ok .nop ∧ decode win = ⟨.nop, 1, false⟩ :=
    decodes_of_opcode Laws.OpcodeTag.nop hb
  refine ⟨hdec, exec_nop, fun s hmem hrun hstop => ?_⟩
  obtain ⟨hnop, -⟩ := hdec (fetchWindow s) (windowByte_of_mem_empty hmem 0)
  rw [step_running hrun hstop, fetchDecodeExecute_of_decodeInstr hnop]
  exact exec_nop s

/-- Settles O2: the jump overwrites the advanced PC. -/
theorem jpGoesToNn : Obligations.JpGoesToNn :=
  ⟨fun win hb => decodes_of_opcode (Laws.OpcodeTag.jpNn (immWord win)) hb, exec_jpNn⟩

/-- Settles O3: the rows are z = 2 of the quarter x = 3, the condition by y. -/
theorem jpCcGoesToNnIfConditionHolds : Obligations.JpCcGoesToNnIfConditionHolds := by
  refine ⟨fun y win hb => decodes_quarter3 (z := 2#3) hb (by decide) (by decide), fun cc nn s => ?_⟩
  rw [exec_jpCc, jumpIf_eq]

/-- Settles O4: the displacement is added to the advanced PC; sign extension is the two's complement reading. -/
theorem jrGoesBySignedDisplacement : Obligations.JrGoesBySignedDisplacement := by
  refine ⟨fun win hb => decodes_of_opcode (Laws.OpcodeTag.jrD win.b1) hb, fun d s => ?_⟩
  rw [exec_jrD, jumpBy_eq, sext16, BitVec.signExtend]
  rfl

/-- Settles O5: the rows are z = 0 of the quarter x = 0 with y from 4 on, the condition by y - 4. -/
theorem jrCcGoesBySignedDisplacementIfConditionHolds :
    Obligations.JrCcGoesBySignedDisplacementIfConditionHolds := by
  refine ⟨fun code win hb => ?_, fun cc d s => ?_⟩
  · have hdec := decodes_quarter0 (hb.trans (jrCcOpcode_fields code))
    rw [tagX0_jrCc] at hdec
    exact hdec
  · rw [exec_jrCc, jumpByIf_eq, sext16, BitVec.signExtend]

end Sys2Proof.Machine
end

section
/-! DI and EX AF,AF': one write of the latch, and an exchange that is its own inverse (spec/42_system.md R150, R151). -/

namespace Sys2Proof.Machine

/-- DI writes the latch and PC. -/
theorem setIff_advance (b : Bool) (s : State) (len : Nat) : (s.advance len).setIff b =
    { s with pc := s.pc + BitVec.ofNat 16 len, iff := b } := rfl

/-- EX AF,AF' writes A and F in both register sets, F as a whole, so all eight flag bits, and PC. -/
theorem exchangeAf_advance (s : State) (len : Nat) : exchangeAf (s.advance len) =
    { s with
      pc := s.pc + BitVec.ofNat 16 len,
      regs := { s.regs with a := s.shadow.a, f := s.shadow.f },
      shadow := { s.shadow with a := s.regs.a, f := s.regs.f } } := rfl

/-- The exchange neither reads nor writes PC. -/
theorem exchangeAf_advance_comm (s : State) (len : Nat) : exchangeAf (s.advance len) = (exchangeAf s).advance len := rfl

@[simp] theorem exchangeAf_exchangeAf (s : State) : exchangeAf (exchangeAf s) = s := rfl

/-- Two EX AF,AF' in a row only advance PC twice. -/
theorem exchangeAf_advance_twice (s : State) (len : Nat) :
    exchangeAf ((exchangeAf (s.advance len)).advance len) = (s.advance len).advance len := by
  rw [exchangeAf_advance_comm, exchangeAf_exchangeAf]

/-- Settles O8: DI has one opcode Byte; its effect is the write of the latch after the advance of PC. -/
theorem diClearsLatchOnly : Obligations.DiClearsLatchOnly := by
  refine ⟨fun win hb => decodes_of_opcode Laws.OpcodeTag.di hb, fun s => ?_⟩
  rw [exec_di, setIff_advance]

/-- Settles O9: two exchanges cancel, since the exchange commutes with the advance of PC and is its own inverse. -/
theorem exchangeSwapsAccumulatorAndFlags : Obligations.ExchangeSwapsAccumulatorAndFlags := by
  refine ⟨fun win hb => decodes_of_opcode Laws.OpcodeTag.exAfAf hb, fun s => ?_, fun s t u hfirst hsecond => ?_⟩
  · rw [exec_exAfAf, exchangeAf_advance]
  · rw [exec_exAfAf] at hfirst hsecond
    obtain rfl := Host.Outcome.next.inj hfirst
    obtain rfl := Host.Outcome.next.inj hsecond
    simp [exchangeAf_advance_twice]

end Sys2Proof.Machine
end

section
/-! The tags of the families of S, and the halt as what every instruction outside S does (spec/30_encoding.md R81, R82,
spec/42_system.md R152, R153, spec/60_exceptions.md R171, R172). -/

namespace Sys2Proof

@[simp] theorem Instr.incR_tag (r : Operand8) : (Instr.incR r).tag = .incR r := by cases r <;> rfl
@[simp] theorem Instr.decR_tag (r : Operand8) : (Instr.decR r).tag = .decR r := by cases r <;> rfl
@[simp] theorem Instr.andR_tag (r : Operand8) : (Instr.andR r).tag = .andR r := by cases r <;> rfl
@[simp] theorem Instr.xorR_tag (r : Operand8) : (Instr.xorR r).tag = .xorR r := by cases r <;> rfl
@[simp] theorem Instr.orR_tag (r : Operand8) : (Instr.orR r).tag = .orR r := by cases r <;> rfl
@[simp] theorem Instr.cpR_tag (r : Operand8) : (Instr.cpR r).tag = .cpR r := by cases r <;> rfl
@[simp] theorem Instr.jpCc_tag (cc : Cond) (nn : Word) : (Instr.jpCc cc nn).tag = .jpCc cc := by cases cc <;> rfl
@[simp] theorem Instr.jrCc_tag (cc : RelCond) (d : Byte) : (Instr.jrCc cc d).tag = .jrCc cc := by cases cc <;> rfl

theorem Tag.cls_eq_invalid_iff (t : Tag) : t.cls = .invalid ↔ t = .invalid := by cases t <;> simp [Tag.cls]

end Sys2Proof

namespace Sys2Proof.Machine

theorem inS_eq_false_of_unimplemented {i : Instr} (h : i.tag.cls = .unimplemented) : inS i = false := by simp [inS, h]

theorem inS_eq_false_of_invalid {i : Instr} (h : i.tag.cls = .invalid) : inS i = false := by simp [inS, h]

/-- What an instruction outside S does: it halts, with a reason and a length of its own, whatever the state
(42_system.md R152, R153). -/
theorem exec_halts {i : Instr} (h : inS i = false) :
    ∃ reason, ∀ s : State, exec i s = .next (s.halt reason i.len) := by
  cases hcls : i.tag.cls with
  | implemented => simp [inS, hcls] at h
  | unimplemented => exact ⟨.unimplemented i.tag, fun s => exec_unimplemented i s hcls⟩
  | invalid =>
    obtain ⟨second, hexec⟩ := exec_invalid i hcls
    have hlen : i.len = 1 := by rw [Instr.len, (Tag.cls_eq_invalid_iff _).mp hcls, Tag.len]
    exact ⟨.invalid i.opcode second, fun s => by rw [hexec, hlen, haltInvalid]⟩

/-- No instruction faults or is refused (60_exceptions.md R170). -/
theorem exec_continues (i : Instr) (s : State) : ∃ t, exec i s = .next t := by
  induction i using instrShapes with
  | nop | exAfAf | jr | rrca | jp | ret | call | di | andN | xorN | orN | cpN => exact ⟨_, rfl⟩
  | jrCc cc d => exact ⟨_, exec_jrCc cc d s⟩
  | incR r => exact ⟨_, exec_incR r s⟩
  | decR r => exact ⟨_, exec_decR r s⟩
  | andR r => exact ⟨_, exec_andR r s⟩
  | xorR r => exact ⟨_, exec_xorR r s⟩
  | orR r => exact ⟨_, exec_orR r s⟩
  | cpR r => exact ⟨_, exec_cpR r s⟩
  | jpCc cc nn => exact ⟨_, exec_jpCc cc nn s⟩
  | unimplemented i h => exact ⟨_, exec_unimplemented i s h⟩
  | invalid i h =>
    obtain ⟨second, hexec⟩ := exec_invalid i h
    exact ⟨_, hexec s⟩

end Sys2Proof.Machine
end

section
/-! What an instruction leaves of memory: memory with Bytes stored at its stored addresses and nowhere else
(spec/20_memory.md R51, R59, spec/40_alu.md R110, R111, spec/41_control_flow.md R134). -/

namespace Sys2Proof.Machine

/-- The second memory is the first with some Byte stored at each of the addresses, in their order. -/
def Memory.StoresAt : List Word → Memory → Memory → Prop
  | [], m, m' => m' = m
  | a :: rest, m, m' => ∃ v : Byte, Memory.StoresAt rest (m.write a.toNat v) m'

theorem Memory.StoresAt.wf {as : List Word} {m m' : Memory} (h : Memory.StoresAt as m m') (hm : m.wf = true) :
    m'.wf = true := by
  induction as generalizing m with
  | nil => exact h ▸ hm
  | cons a rest ih =>
    obtain ⟨v, hrest⟩ := h
    exact ih hrest (Memory.write_wf m a.toNat v hm)

theorem Memory.StoresAt.read_eq {as : List Word} {m m' : Memory} (h : Memory.StoresAt as m m') {b : Word} (hb : b ∉ as) :
    m'.read b.toNat = m.read b.toNat := by
  induction as generalizing m with
  | nil => rw [h]
  | cons a rest ih =>
    obtain ⟨v, hrest⟩ := h
    obtain ⟨hne, hmem⟩ := not_or.mp (mt List.mem_cons.mpr hb)
    rw [ih hrest hmem, Memory.read_write_word, if_neg hne]

theorem storedAddresses_of_not_inS {i : Instr} (h : inS i = false) (s : State) : storedAddresses i s = [] := by
  have htag {j : Instr} (hj : inS j = true) : i ≠ j := by rintro rfl; simp [h] at hj
  have hcall : i.tag ≠ .call := by intro hc; simp [inS, hc, Tag.cls] at h
  rw [storedAddresses, if_neg (not_or.mpr ⟨htag rfl, htag rfl⟩), if_neg hcall]

theorem storedAddresses_incR (r : Operand8) (s : State) :
    storedAddresses (Instr.incR r) s = if r = .memHl then [s.hl] else [] := by cases r <;> rfl

theorem storedAddresses_decR (r : Operand8) (s : State) :
    storedAddresses (Instr.decR r) s = if r = .memHl then [s.hl] else [] := by cases r <;> rfl

/-- A family whose tag is neither INC's, DEC's nor CALL's stores nowhere. -/
theorem storedAddresses_eq_nil {i : Instr} (hinc : i.tag ≠ .incR .memHl) (hdec : i.tag ≠ .decR .memHl)
    (hcall : i.tag ≠ .call) (s : State) : storedAddresses i s = [] := by
  have hi : ¬(i = .incMemHl ∨ i = .decMemHl) := by
    rintro (rfl | rfl)
    · exact hinc rfl
    · exact hdec rfl
  rw [storedAddresses, if_neg hi, if_neg hcall]

/-- Memory after INC or DEC of an operand, as a store at the one address that the operand can name. -/
theorem Memory.storesAt_ite (r : Operand8) (m : Memory) (a : Word) (v : Byte) :
    Memory.StoresAt (if r = .memHl then [a] else []) m (if r = .memHl then m.write a.toNat v else m) := by
  by_cases h : r = .memHl
  · rw [if_pos h, if_pos h]
    exact ⟨v, rfl⟩
  · rw [if_neg h, if_neg h]
    exact rfl

/-- Memory after any instruction. -/
theorem exec_storesAt {i : Instr} {s t : State} (h : exec i s = .next t) :
    Memory.StoresAt (storedAddresses i s) s.mem t.mem := by
  apply exec_inversion (Q := fun i s t => Memory.StoresAt (storedAddresses i s) s.mem t.mem) (h := h)
  case incR => 
    intro r s
    rw [storedAddresses_incR, incrementR_mem]
    exact Memory.storesAt_ite _ _ _ _
  case decR =>
    intro r s
    rw [storedAddresses_decR, decrementR_mem]
    exact Memory.storesAt_ite _ _ _ _
  case call => exact fun nn s => ⟨_, _, rfl⟩
  case nop | exAfAf | jr | rrca | jp | ret | di | andN | xorN | orN | cpN => intros; rfl
  case jrCc =>
    intro cc d s
    rw [storedAddresses_eq_nil (by simp) (by simp) (by simp), jumpByIf_eq]
    rfl
  case jpCc =>
    intro cc nn s
    rw [storedAddresses_eq_nil (by simp) (by simp) (by simp), jumpIf_eq]
    rfl
  case andR | xorR | orR | cpR =>
    intro r s
    rw [storedAddresses_eq_nil (by simp) (by simp) (by simp)]
    rfl
  case unimplemented =>
    intro i s hi
    rw [storedAddresses_of_not_inS (inS_eq_false_of_unimplemented hi)]
    rfl
  case invalid =>
    intro i s second hi
    rw [storedAddresses_of_not_inS (inS_eq_false_of_invalid hi)]
    rfl

/-- Settles O49: memory after an instruction is memory with Bytes stored at its stored addresses. -/
theorem memoryFrameOfEveryInstruction : Obligations.MemoryFrameOfEveryInstruction := by
  intro i s t h a ha
  exact (exec_storesAt h).read_eq ha

end Sys2Proof.Machine
end

section
/-! What every instruction leaves unchanged of the registers, the latch, the status and the configuration
(spec/10_state.md R35, spec/60_exceptions.md R171). -/

namespace Sys2Proof.Machine

/-- Outside the registers A to L, F, PC, memory and the draw counter an instruction changes only what its name says. -/
structure Frame (i : Instr) (s t : State) : Prop where
  shadow  : i ≠ .exAfAf → t.shadow = s.shadow
  sp      : i.tag ≠ .call → i ≠ .ret → t.sp = s.sp
  iff     : i ≠ .di → t.iff = s.iff
  status  : inS i = true → t.status = s.status
  ix      : t.ix = s.ix
  iy      : t.iy = s.iy
  i       : t.i = s.i
  r       : t.r = s.r
  params  : t.params = s.params
  stopReq : t.stopReq = s.stopReq

/-- A family that changes nothing but the registers A to L, F, PC, memory and the draw counter. -/
theorem Frame.of_ordinary {i : Instr} {s t : State}
    (h : t = { s with regs := t.regs, pc := t.pc, mem := t.mem, drawCount := t.drawCount }) : Frame i s t := by
  rw [h]
  exact ⟨fun _ => rfl, fun _ _ => rfl, fun _ => rfl, fun _ => rfl, rfl, rfl, rfl, rfl, rfl, rfl⟩

/-- A halt changes PC and the status (60_exceptions.md R171). -/
theorem Frame.of_halt {i : Instr} (hi : inS i = false) (s : State) (reason : HaltReason) (len : Nat) :
    Frame i s (s.halt reason len) :=
  ⟨fun _ => rfl, fun _ _ => rfl, fun _ => rfl, fun h => absurd h (by simp [hi]), rfl, rfl, rfl, rfl, rfl, rfl⟩

theorem incrementR_ordinary (r : Operand8) (s : State) : incrementR r s = { s with
    regs := (incrementR r s).regs, mem := (incrementR r s).mem, drawCount := (incrementR r s).drawCount } := by
  cases r <;> rfl

theorem decrementR_ordinary (r : Operand8) (s : State) : decrementR r s = { s with
    regs := (decrementR r s).regs, mem := (decrementR r s).mem, drawCount := (decrementR r s).drawCount } := by
  cases r <;> rfl

theorem exec_frame {i : Instr} {s t : State} (h : exec i s = .next t) : Frame i s t := by
  apply exec_inversion (Q := Frame) (h := h)
  case nop | jr | rrca | jp | andN | xorN | orN | cpN => intros; exact .of_ordinary rfl
  case andR | xorR | orR | cpR => intros; exact .of_ordinary rfl
  case jrCc => intro cc d s; rw [jumpByIf_eq]; exact .of_ordinary rfl
  case jpCc => intro cc nn s; rw [jumpIf_eq]; exact .of_ordinary rfl
  case incR => intro r s; rw [incrementR_ordinary]; exact .of_ordinary rfl
  case decR => intro r s; rw [decrementR_ordinary]; exact .of_ordinary rfl
  case exAfAf =>
    exact fun s => ⟨fun h => absurd rfl h, fun _ _ => rfl, fun _ => rfl, fun _ => rfl, rfl, rfl, rfl, rfl, rfl, rfl⟩
  case ret =>
    exact fun s => ⟨fun _ => rfl, fun _ h => absurd rfl h, fun _ => rfl, fun _ => rfl, rfl, rfl, rfl, rfl, rfl, rfl⟩
  case call =>
    intro nn s
    rw [State.call_eq]
    exact ⟨fun _ => rfl, fun h => absurd rfl h, fun _ => rfl, fun _ => rfl, rfl, rfl, rfl, rfl, rfl, rfl⟩
  case di =>
    exact fun s => ⟨fun _ => rfl, fun _ _ => rfl, fun h => absurd rfl h, fun _ => rfl, rfl, rfl, rfl, rfl, rfl, rfl⟩
  case unimplemented => exact fun i s hi => .of_halt (inS_eq_false_of_unimplemented hi) s _ _
  case invalid => exact fun i s second hi => .of_halt (inS_eq_false_of_invalid hi) s _ _

/-- The registers after a write of the operand that an instruction writes, if it writes one (10_state.md R35). -/
def operandWritten (r? : Option Operand8) (v : Byte) (s : State) : RegSet :=
  match r? with
  | none => s.regs
  | some r => (writeR r v s).regs

theorem writtenOperand_of_not_inS {i : Instr} (h : inS i = false) : writtenOperand i = none := by
  unfold writtenOperand
  split <;> simp_all [inS, Tag.cls]

/-- The registers A to L and F after any instruction: its written operand, and F if it is one of those that write F. -/
theorem exec_regs {i : Instr} {s t : State} (h : exec i s = .next t) : ∃ (v : Byte) (f : Flags),
    t.regs = { operandWritten (writtenOperand i) v s with f := f } ∧ (writesFlags i = false → f = s.regs.f) := by
  apply exec_inversion (h := h) (Q := fun i s t => ∃ (v : Byte) (f : Flags),
    t.regs = { operandWritten (writtenOperand i) v s with f := f } ∧ (writesFlags i = false → f = s.regs.f))
  case nop | jr | jp | ret | call | di => intros; exact ⟨0#8, _, rfl, fun _ => rfl⟩
  case exAfAf | rrca | andN | xorN | orN => intros; exact ⟨_, _, rfl, nofun⟩
  case cpN => intros; exact ⟨0#8, _, rfl, nofun⟩
  case jrCc => intro cc d s; rw [jumpByIf_eq]; cases cc <;> exact ⟨0#8, _, rfl, fun _ => rfl⟩
  case jpCc => intro cc nn s; rw [jumpIf_eq]; cases cc <;> exact ⟨0#8, _, rfl, fun _ => rfl⟩
  case incR => intro r s; use readR r s + 1#8; cases r <;> exact ⟨_, rfl, nofun⟩
  case decR => intro r s; use readR r s - 1#8; cases r <;> exact ⟨_, rfl, nofun⟩
  case andR | xorR | orR => intro r s; cases r <;> exact ⟨_, _, rfl, nofun⟩
  case cpR => intro r s; cases r <;> exact ⟨0#8, _, rfl, nofun⟩
  case unimplemented =>
    intro i s hi
    rw [writtenOperand_of_not_inS (inS_eq_false_of_unimplemented hi)]
    exact ⟨0#8, _, rfl, fun _ => rfl⟩
  case invalid =>
    intro i s second hi
    rw [writtenOperand_of_not_inS (inS_eq_false_of_invalid hi)]
    exact ⟨0#8, _, rfl, fun _ => rfl⟩

/-- A write of another operand, and of F, is not seen by a read of a register. -/
theorem readR_operandWritten {r : Operand8} {r? : Option Operand8} {s t : State} {v : Byte} {f : Flags}
    (hmem : r ≠ .memHl) (hr : r? ≠ some r) (h : t.regs = { operandWritten r? v s with f := f }) :
    readR r t = readR r s := by
  cases r? with
  | none => cases r <;> simp_all [readR, operandWritten]
  | some w => cases w <;> cases r <;> simp_all [readR, operandWritten, writeR]

/-- Settles O48: the registers by the written operand and the flag-writing tags, everything else by the frame. -/
theorem registerFrameOfEveryInstruction : Obligations.RegisterFrameOfEveryInstruction := by
  intro i s t h
  obtain ⟨v, f, hregs, hf⟩ := exec_regs h
  have hframe := exec_frame h
  refine ⟨fun r hmem hr => readR_operandWritten hmem hr hregs, fun hw => ?_, hframe.shadow, hframe.sp, hframe.iff,
    hframe.status, hframe.ix, hframe.iy, hframe.i, hframe.r, hframe.params, hframe.stopReq⟩
  rw [hregs]
  exact hf hw

end Sys2Proof.Machine
end

section
/-! The invariant that memory stays in its canonical form, along every step, host action and history (spec/20_memory.md
section 1, spec/60_exceptions.md R161 to R166, spec/70_reset_and_hazards.md R195). -/

namespace Sys2Proof.Machine

/-- What a move or a host action from `s` keeps: the canonical form of memory, the configuration, and that the block has
been reset. -/
structure KeepsInvariant (s t : State) : Prop where
  canonical   : Canonical s → Canonical t
  params      : t.params = s.params
  operational : Operational s → Operational t

theorem KeepsInvariant.refl (s : State) : KeepsInvariant s s := ⟨id, rfl, id⟩

theorem KeepsInvariant.trans {s t u : State} (hst : KeepsInvariant s t) (htu : KeepsInvariant t u) :
    KeepsInvariant s u :=
  ⟨htu.canonical ∘ hst.canonical, htu.params.trans hst.params, htu.operational ∘ hst.operational⟩

/-- After an instruction the status is the one it ran under, or Halted (60_exceptions.md R161). -/
theorem exec_status {i : Instr} {s t : State} (h : exec i s = .next t) :
    if inS i = true then t.status = s.status else ∃ reason, t.status = .halted reason := by
  split
  case isTrue hi => exact (exec_frame h).status hi
  case isFalse hi =>
    obtain ⟨reason, hexec⟩ := exec_halts (Bool.not_eq_true _ ▸ hi)
    rw [hexec] at h
    obtain rfl := Host.Outcome.next.inj h
    exact ⟨reason, rfl⟩

theorem exec_keepsInvariant {i : Instr} {s t : State} (h : exec i s = .next t) : KeepsInvariant s t where
  canonical := (exec_storesAt h).wf
  params := (exec_frame h).params
  operational hs := by
    have hst := exec_status h
    split at hst
    case isTrue => rwa [Operational, hst]
    case isFalse =>
      obtain ⟨reason, hreason⟩ := hst
      rw [Operational, hreason]
      nofun

theorem halt_keepsInvariant (s : State) (reason : HaltReason) (len : Nat) : KeepsInvariant s (s.halt reason len) :=
  ⟨id, rfl, fun _ => nofun⟩

/-- No step starts an instruction under the status Created (60_exceptions.md R166). -/
theorem continueStatus_ne_created (st : Status) : continueStatus st ≠ .created := by cases st <;> nofun

theorem setStatus_continueStatus_operational (s : State) : Operational (s.setStatus (continueStatus s.status)) :=
  continueStatus_ne_created s.status

/-- Setting the status under which an instruction runs keeps the invariant. -/
theorem setStatus_continueStatus_keepsInvariant (s : State) :
    KeepsInvariant s (s.setStatus (continueStatus s.status)) :=
  ⟨id, rfl, fun _ => setStatus_continueStatus_operational s⟩

theorem fetchDecodeExecute_keepsInvariant {s t : State} (h : fetchDecodeExecute s = .next t) : KeepsInvariant s t := by
  unfold fetchDecodeExecute at h
  split at h
  case h_1 i hi => exact exec_keepsInvariant h
  case h_2 =>
    obtain rfl := Host.Outcome.next.inj h
    exact halt_keepsInvariant s _ _

theorem step_keepsInvariant {s t : State} (h : step s = .next t) : KeepsInvariant s t := by
  obtain ⟨-, ⟨-, -, rfl⟩ | ⟨-, hinstr⟩⟩ := step_cases s t h
  · exact ⟨id, rfl, fun _ => nofun⟩
  · exact (setStatus_continueStatus_keepsInvariant s).trans (fetchDecodeExecute_keepsInvariant hinstr)

theorem executeTriple_keepsInvariant {d : Decoded} {win : Window} {s t : State} (h : executeTriple d win s = .next t) :
    KeepsInvariant s t := by
  obtain ⟨-, ⟨-, rfl⟩ | ⟨-, i, -, hexec⟩⟩ := executeTriple_cases d win s t h
  · exact halt_keepsInvariant s _ _
  · exact exec_keepsInvariant hexec

theorem hostAct_next {act : HostAction} {s t : State} (h : hostAct act s = .next t) : performAction act s = .next t := by
  cases hp : permits s.status act with
  | true => rwa [hostAct_permitted act s hp] at h
  | false => rw [hostAct_notPermitted act s hp] at h; nomatch h

theorem loadImage_keepsInvariant (img : List Byte) (s : State) : KeepsInvariant s (loadImage img s) := by
  unfold loadImage
  split
  case isTrue => exact ⟨Memory.writeBytes_wf img s.mem 0, rfl, id⟩
  case isFalse => exact .refl s

theorem hostAct_keepsInvariant {act : HostAction} {s t : State} (h : hostAct act s = .next t) : KeepsInvariant s t := by
  replace h := hostAct_next h
  cases act with
  | stepInstr d => exact (setStatus_continueStatus_keepsInvariant s).trans (executeTriple_keepsInvariant h)
  | load img => cases h; exact loadImage_keepsInvariant img s
  | writeMem a v => cases h; exact ⟨Memory.write_wf s.mem a v, rfl, id⟩
  | hardReset | run => cases h; exact ⟨id, rfl, fun _ => nofun⟩
  | requestStop | writeIff => cases h; exact ⟨id, rfl, id⟩
  | writeByteReg reg | writeWordReg reg => cases h; cases reg <;> exact ⟨id, rfl, id⟩
  | writeF slot | writeFlag slot => cases h; cases slot <;> exact ⟨id, rfl, id⟩

theorem applyEvent_keepsInvariant {e : Event} {s t : State} (h : applyEvent e s = .next t) : KeepsInvariant s t := by
  cases e with
  | move => exact step_keepsInvariant h
  | host act => exact hostAct_keepsInvariant h

/-- Settles O30: a step never starts in Created, so its operational part holds without a hypothesis. -/
theorem stepKeepsMemoryCanonicalAndOperational : Obligations.StepKeepsMemoryCanonicalAndOperational := by
  intro s t hs h
  have hkeeps := step_keepsInvariant h
  obtain ⟨hop, -⟩ := step_cases s t h
  exact ⟨hkeeps.canonical hs, hkeeps.operational hop, hkeeps.params⟩

/-- Settles O31, action by action; `step(instr)` runs an instruction as a step does. -/
theorem hostActionKeepsInvariant : Obligations.HostActionKeepsInvariant := by
  intro act s t hs h
  have hkeeps := hostAct_keepsInvariant h
  exact ⟨hkeeps.canonical hs, hkeeps.params, hkeeps.operational⟩

theorem applyEvents_keepsInvariant {es : List Event} {s t : State} (h : applyEvents es s = .next t) :
    KeepsInvariant s t := by
  induction es generalizing s with
  | nil =>
    obtain rfl := Host.Outcome.next.inj h
    exact .refl s
  | cons e rest ih =>
    unfold applyEvents at h
    split at h
    case h_1 u hu => exact (applyEvent_keepsInvariant hu).trans (ih h)
    case h_2 | h_3 => nomatch h

/-- Settles O32, by induction on the history: each of its events keeps the invariant. -/
theorem everyHistoryKeepsInvariant : Obligations.EveryHistoryKeepsInvariant := by
  intro es s t hs h
  have hkeeps := applyEvents_keepsInvariant h
  exact ⟨hkeeps.canonical hs, hkeeps.params, hkeeps.operational⟩

end Sys2Proof.Machine
end

section
/-! Decoder and encoder against each other: what each row of the tables reads from the window, and that the opcode Byte and
the tag determine one another off the four Bytes 0xCB, 0xDD, 0xED and 0xFD (spec/30_encoding.md R70 to R85). -/

namespace Sys2Proof

@[simp] theorem lo8_immWord (win : Window) : lo8 (immWord win) = win.b1 := lo8_joinBytes win.b2 win.b1
@[simp] theorem hi8_immWord (win : Window) : hi8 (immWord win) = win.b2 := hi8_joinBytes win.b2 win.b1

/-- The operand Bytes of a Word read from the window are the window's, low Byte first (30_encoding.md R72, R78). -/
theorem wordBytes_immWord (win : Window) : [lo8 (immWord win), hi8 (immWord win)] = [win.b1, win.b2] := by simp

/-- The two readings of the opcode table agree: the tag by the fields of the opcode Byte is the row's tag. -/
theorem unprefixedTag_opcode (i : Instr) : unprefixedTag i.opcode = i.tag := by
  cases i <;> (show unprefixedTag (BitVec.ofNat 8 _) = _; rfl)

theorem isPrefixByte_opcode (i : Instr) : isPrefixByte i.opcode = i.usedPrefix := by
  cases i <;> (show isPrefixByte (BitVec.ofNat 8 _) = _; rfl)

theorem isPrefixByte_iff (b : Byte) :
    isPrefixByte b = true ↔ b = 0xCB#8 ∨ b = 0xDD#8 ∨ b = 0xED#8 ∨ b = 0xFD#8 := by
  simp only [isPrefixByte, Bool.or_eq_true, beq_iff_eq]
  tauto

theorem unprefixedTag_wf (b : Byte) : (unprefixedTag b).wf = true := by revert b; decide

theorem unprefixedTag_eq_invalid_iff (b : Byte) : unprefixedTag b = .invalid ↔ isPrefixByte b = true := by
  revert b; decide

/-- A window decodes to the tag that the fields of its first Byte give, prefixed or not. -/
theorem decode_tag (win : Window) : (decode win).tag = unprefixedTag win.b0 := by
  unfold decode
  split
  case isTrue h => exact ((unprefixedTag_eq_invalid_iff _).mpr h).symm
  case isFalse => rfl

theorem decode_usedPrefix (win : Window) : (decode win).usedPrefix = isPrefixByte win.b0 := by
  unfold decode
  split <;> simp_all

/-- A window that begins with an instruction's opcode Byte has its triple (30_encoding.md R85). -/
theorem decode_of_opcode {win : Window} {i : Instr} (hb : win.b0 = i.opcode) : decode win = i.triple := by
  have hi : Laws.OpcodeTag.Statement i :=
    Laws.OpcodeTag.decode_triple i (isPrefixByte_opcode i) (unprefixedTag_opcode i)
  exact (decodes_of_opcode hi hb).2

/-- What a row reads from the window: a tag of the tables gives the instruction of that tag whose operand Bytes are the
window's, as many as its length says (30_encoding.md R78). -/
theorem assemble_of_wf {t : Tag} (hwf : t.wf = true) (hvalid : t ≠ .invalid) (win : Window) :
    ∃ i : Instr, assemble t win = .ok i ∧ i.tag = t ∧ i.operandBytes = win.bytes.tail.take (t.len - 1) := by
  cases t
  case invalid => exact absurd rfl hvalid
  case ldRR dst src =>
    cases dst <;> cases src
    case memHl.memHl => nomatch hwf
    all_goals exact ⟨_, rfl, rfl, rfl⟩
  case jp | call | ldMemNnHl | ldHlMemNn | ldMemNnA | ldAMemNn =>
    exact ⟨_, rfl, rfl, wordBytes_immWord win⟩
  case jpCc cc | callCcNn cc =>
    cases cc <;> exact ⟨_, rfl, rfl, wordBytes_immWord win⟩
  case ldRpNn p => cases p <;> exact ⟨_, rfl, rfl, wordBytes_immWord win⟩
  case incR r | decR r | andR r | xorR r | orR r | cpR r | ldRN r | addAR r | adcAR r | subR r | sbcAR r =>
    cases r <;> exact ⟨_, rfl, rfl, rfl⟩
  case jrCc cc => cases cc <;> exact ⟨_, rfl, rfl, rfl⟩
  case retCc cc => cases cc <;> exact ⟨_, rfl, rfl, rfl⟩
  case addHlRp p | incRp p | decRp p => cases p <;> exact ⟨_, rfl, rfl, rfl⟩
  case popRp2 p | pushRp2 p => cases p <;> exact ⟨_, rfl, rfl, rfl⟩
  case rst y =>
    have htag : (Instr.rst y).tag = .rst y ∧ (Instr.rst y).operandBytes = [] := by revert y; decide
    exact ⟨_, rfl, htag.1, htag.2⟩
  all_goals exact ⟨_, rfl, rfl, rfl⟩

/-- The opcode Byte of a tag's row, found by assembling it on a window of 0x00 Bytes. -/
def Tag.opcode? (t : Tag) : Option Byte := (assemble t ⟨0#8, 0#8, 0#8, 0#8⟩).toOption.map Instr.opcode

/-- No two rows have one tag: off the four prefixed rows the tag gives its opcode Byte back. -/
theorem opcode?_unprefixedTag (b : Byte) (h : isPrefixByte b = false) : (unprefixedTag b).opcode? = some b := by
  revert b; decide

theorem unprefixedTag_inj {b c : Byte} (hb : isPrefixByte b = false) (hc : isPrefixByte c = false)
    (h : unprefixedTag b = unprefixedTag c) : b = c := by
  have hsome : some b = some c := by rw [← opcode?_unprefixedTag b hb, h, opcode?_unprefixedTag c hc]
  exact Option.some.inj hsome

theorem Instr.usedPrefix_eq_false_iff (i : Instr) : i.usedPrefix = false ↔ i.tag ≠ .invalid := by
  simp [Instr.usedPrefix]

/-- A prefixed window gives the row of its first Byte, with its second, and that row halts with both (30_encoding.md R80,
42_system.md R153). -/
theorem decodeInstr_prefixed {win : Window} (h : isPrefixByte win.b0 = true) :
    ∃ i : Instr, decodeInstr win = .ok i ∧ encode i = [win.b0, win.b1] ∧
      ∀ s, Machine.exec i s = .next (Machine.haltInvalid win.b0 win.b1 s) := by
  obtain ⟨b0, b1, b2, b3⟩ := win
  obtain rfl | rfl | rfl | rfl := (isPrefixByte_iff b0).mp h
  · exact ⟨.prefixCb b1, rfl, rfl, fun _ => rfl⟩
  · exact ⟨.prefixDd b1, rfl, rfl, fun _ => rfl⟩
  · exact ⟨.prefixEd b1, rfl, rfl, fun _ => rfl⟩
  · exact ⟨.prefixFd b1, rfl, rfl, fun _ => rfl⟩

/-- Every window decodes, to the instruction whose Bytes it begins with. -/
theorem decodeInstr_ok (win : Window) : ∃ i : Instr, decodeInstr win = .ok i ∧ encode i <+: win.bytes := by
  cases hp : isPrefixByte win.b0 with
  | true =>
    obtain ⟨i, hdec, henc, -⟩ := decodeInstr_prefixed hp
    exact ⟨i, hdec, henc ▸ ⟨[win.b2, win.b3], rfl⟩⟩
  | false =>
    have hvalid : unprefixedTag win.b0 ≠ .invalid := by simp [unprefixedTag_eq_invalid_iff, hp]
    obtain ⟨i, hdec, htag, hops⟩ := assemble_of_wf (unprefixedTag_wf win.b0) hvalid win
    have hpi : isPrefixByte i.opcode = false := by
      rw [isPrefixByte_opcode, Instr.usedPrefix_eq_false_iff, htag]
      exact hvalid
    have hopcode : i.opcode = win.b0 := unprefixedTag_inj hpi hp ((unprefixedTag_opcode i).trans htag)
    refine ⟨i, by rw [decodeInstr, decode_tag, hdec], ?_⟩
    rw [encode, hopcode, hops]
    exact (List.prefix_cons_inj win.b0).mpr (List.take_prefix _ win.bytes.tail)

/-- A Word may be replaced by its two halves joined. -/
theorem eq_of_eq_joinBytes {α : Type} {f : Word → α} {x : α} (w : Word) (h : x = f (joinBytes (hi8 w) (lo8 w))) :
    x = f w := by
  rwa [joinBytes_hi8_lo8] at h

/-- A row read back from a window that its own Bytes begin: an operand Word comes back from its two halves, and every
other row has its operand Byte, if any, in place. -/
theorem assemble_tag_ofBytes (i : Instr) (rest : List Byte) :
    assemble i.tag (Window.ofBytes (encode i ++ rest)) = .ok i := by
  cases i
  case jpNn nn | jpNzNn nn | jpZNn nn | jpNcNn nn | jpCNn nn | jpPoNn nn | jpPeNn nn | jpPNn nn | jpMNn nn =>
    apply eq_of_eq_joinBytes nn; rfl
  case callNn nn | callNzNn nn | callZNn nn | callNcNn nn | callCNn nn | callPoNn nn | callPeNn nn | callPNn nn |
      callMNn nn =>
    apply eq_of_eq_joinBytes nn; rfl
  case ldBcNn nn | ldDeNn nn | ldHlNn nn | ldSpNn nn | ldMemNnHl nn | ldHlMemNn nn | ldMemNnA nn | ldAMemNn nn =>
    apply eq_of_eq_joinBytes nn; rfl
  all_goals rfl

/-- Settles O33: the opcode Byte gives the tag and the triple, the tag reads the operands back. -/
theorem decodeOfEncodeIsTheInstruction : Obligations.DecodeOfEncodeIsTheInstruction := by
  intro i rest
  have hdec : decode (Window.ofBytes (encode i ++ rest)) = i.triple := decode_of_opcode rfl
  refine ⟨?_, hdec⟩
  rw [decodeInstr, hdec]
  exact assemble_tag_ofBytes i rest

/-- Settles O34: the window begins with the Bytes of some instruction it decodes to, and it decodes to one only. -/
theorem encodeOfDecodedIsTheWindow : Obligations.EncodeOfDecodedIsTheWindow := by
  intro win i h
  obtain ⟨j, hdec, henc⟩ := decodeInstr_ok win
  obtain rfl : j = i := by simpa using hdec.symm.trans h
  exact henc

/-- The first Byte of a window is the opcode of the instruction it decodes to. -/
theorem decode_eq_triple {win : Window} {i : Instr} (h : decodeInstr win = .ok i) : decode win = i.triple := by
  obtain ⟨rest, hrest⟩ := encodeOfDecodedIsTheWindow win i h
  exact decode_of_opcode (List.cons.inj hrest).1.symm

theorem Instr.wf_eq_true (i : Instr) : i.wf = true := by cases i <;> rfl

theorem Instr.triple_wf (i : Instr) : i.triple.wf = true := by
  have hwf : i.tag.wf = true := i.wf_eq_true
  simp [Decoded.wf, Instr.triple, Instr.len, Instr.usedPrefix, hwf]

/-- Settles O35: the triple is that of an instruction, and only 0xCB, 0xDD, 0xED and 0xFD have no tag of the tables. -/
theorem decoderIsCompleteAndConsistent : Obligations.DecoderIsCompleteAndConsistent := by
  intro win
  obtain ⟨i, hdec, -⟩ := decodeInstr_ok win
  have htriple := decode_eq_triple hdec
  refine ⟨⟨i, hdec, htriple⟩, htriple ▸ i.triple_wf, ?_, ?_⟩
  · rw [decode_tag, unprefixedTag_eq_invalid_iff, isPrefixByte_iff]
  · rw [decode_usedPrefix, isPrefixByte_iff]

end Sys2Proof
end

section
/-! Lengths, halts and the step: what a step's instruction is and which status it leaves (spec/30_encoding.md R79,
spec/60_exceptions.md R161 to R174). -/

namespace Sys2Proof

theorem Tag.len_bounds (t : Tag) : 1 ≤ t.len ∧ t.len ≤ 3 := by cases t <;> simp [Tag.len]

/-- The Bytes of a row are as many as its length, but for a prefixed row's secondary Byte (30_encoding.md R79, R80). -/
theorem encode_length (i : Instr) : (encode i).length = if i.usedPrefix then 2 else i.len := by cases i <;> rfl

end Sys2Proof

namespace Sys2Proof.Machine

/-- Every instruction of S that transfers no control leaves PC after itself (10_state.md R24). -/
theorem exec_pc {i : Instr} {s t : State} (h : exec i s = .next t) (hS : inS i = true)
    (hflow : transfersControl i = false) : t.pc = s.pc + BitVec.ofNat 16 i.len := by
  revert hS hflow
  apply exec_inversion (h := h) (Q := fun i s t => inS i = true → transfersControl i = false →
    t.pc = s.pc + BitVec.ofNat 16 i.len)
  case nop | exAfAf | rrca | di | andN | xorN | orN | cpN => intros; rfl
  case incR | decR | andR | xorR | orR | cpR => intro r s _ _; cases r <;> rfl
  case jr | jp | ret | call => intros; contradiction
  case jrCc => intro cc d s _ hflow; simp [transfersControl] at hflow
  case jpCc => intro cc nn s _ hflow; simp [transfersControl] at hflow
  case unimplemented => intro i s hi hS; simp [inS_eq_false_of_unimplemented hi] at hS
  case invalid => intro i s second hi hS; simp [inS_eq_false_of_invalid hi] at hS

/-- Settles O36: the length by the rows, the advance of PC by the families of S. -/
theorem lengthEqualsBytesConsumed : Obligations.LengthEqualsBytesConsumed := by
  refine ⟨fun i hp => ⟨?_, i.tag.len_bounds⟩, fun i s t hS hflow h => exec_pc h hS hflow⟩
  rw [encode_length, hp]
  rfl

/-- Settles O21: the halt of the recognised instructions, with `HALT_PC` written out. -/
theorem unimplementedHaltsWithItsTag : Obligations.UnimplementedHaltsWithItsTag :=
  fun i s hi => exec_unimplemented i s hi

/-- Settles O23: the halt of the four prefixed rows, with `HALT_PC` written out. -/
theorem prefixInstructionsHalt : Obligations.PrefixInstructionsHalt :=
  fun _ _ => ⟨rfl, rfl, rfl, rfl⟩

/-- Settles O22: the first Byte picks one of the four rows, which carries the second. -/
theorem prefixedWindowHaltsAsInvalid : Obligations.PrefixedWindowHaltsAsInvalid := by
  intro win hb
  have hp : isPrefixByte win.b0 = true := (isPrefixByte_iff win.b0).mpr hb
  exact ⟨by rw [decode, if_pos hp], decodeInstr_prefixed hp⟩

theorem continueStatus_eq {st : Status} (h : st ≠ .created) :
    continueStatus st = if st = .running then .running else .ready := by
  cases st <;> simp_all [continueStatus]

/-- A step that is not refused and meets no stop request is its decoded instruction (60_exceptions.md R161). -/
theorem step_of_decodeInstr {s : State} {i : Instr} (hc : s.status ≠ .created)
    (hstop : ¬(s.status = .running ∧ s.stopReq = true)) (hdec : decodeInstr (fetchWindow s) = .ok i) :
    step s = exec i (s.setStatus (continueStatus s.status)) := by
  rw [step_instruction s hc hstop, stepInstruction]
  exact fetchDecodeExecute_of_decodeInstr hdec

/-- Settles O38: the status under which the instruction runs is the one a Continue leaves. -/
theorem stepRunsDecodedInstruction : Obligations.StepRunsDecodedInstruction := by
  intro s i hc hstop hdec
  rw [step_of_decodeInstr hc hstop hdec, continueStatus_eq hc]
  rfl

/-- Settles O41: the two cases of a step; an instruction leaves the status it ran under or halts. -/
theorem stepStatusFollowsTheLoop : Obligations.StepStatusFollowsTheLoop := by
  intro s t h
  obtain ⟨hc, ⟨hrun, hreq, rfl⟩ | ⟨hstop, -⟩⟩ := step_cases s t h
  · exact ⟨fun _ => rfl, fun hno => absurd ⟨hrun, hreq⟩ hno⟩
  · refine ⟨fun hyes => absurd hyes hstop, fun _ => ?_⟩
    obtain ⟨i, hdec, -⟩ := decodeInstr_ok (fetchWindow s)
    rw [step_of_decodeInstr hc hstop hdec] at h
    have hstatus := exec_status h
    refine ⟨(exec_frame h).stopReq, i, hdec, fun hS => ?_, fun hS => ?_⟩
    · rw [if_pos hS] at hstatus
      rw [hstatus, ← continueStatus_eq hc]
      rfl
    · rwa [if_neg (by simp [hS])] at hstatus

/-- A step answers from every status but Created (60_exceptions.md R166). -/
theorem step_continues {s : State} (hc : s.status ≠ .created) : ∃ t, step s = .next t := by
  by_cases hstop : s.status = .running ∧ s.stopReq = true
  · exact ⟨_, step_stop s hstop.1 hstop.2⟩
  · obtain ⟨i, hdec, -⟩ := decodeInstr_ok (fetchWindow s)
    rw [step_of_decodeInstr hc hstop hdec]
    exact exec_continues i _

/-- Settles O42: no instruction stops the block, so only the status Created does. -/
theorem stepStopsOnlyBeforeReset : Obligations.StepStopsOnlyBeforeReset := by
  refine fun s => ⟨⟨fun ⟨t, ht⟩ => ?_, step_continues⟩, step_created s⟩
  obtain ⟨hc, -⟩ := step_cases s t ht
  exact hc

/-- An instruction that ends Halted where it did not begin so is outside S. -/
theorem not_inS_of_exec_halted {i : Instr} {s t : State} {reason : HaltReason} (h : exec i s = .next t)
    (ht : t.status = .halted reason) (hs : s.status ≠ .halted reason) : inS i = false := by
  rw [← Bool.not_eq_true]
  intro hS
  exact hs (((exec_frame h).status hS).symm.trans ht)

theorem continueStatus_ne_halted (st : Status) (reason : HaltReason) : continueStatus st ≠ .halted reason := by
  cases st <;> nofun

/-- A frozen halt writes the status alone (60_exceptions.md R171). -/
theorem State.halt_of_frozen {s : State} (hfrozen : s.params.haltPc = .frozen) (reason : HaltReason) (len : Nat) :
    s.halt reason len = s.setStatus (.halted reason) := by
  rw [State.halt_eq, haltPcValue_frozen s len hfrozen]
  rfl

/-- Settles O43: the halting instruction depends on memory and PC alone, which a frozen halt keeps. -/
theorem haltedStepHaltsAgain : Obligations.HaltedStepHaltsAgain := by
  intro s t reason hfrozen h hhalted
  obtain ⟨hc, ⟨-, -, rfl⟩ | ⟨hstop, -⟩⟩ := step_cases s t h
  · nomatch hhalted
  obtain ⟨i, hdec, -⟩ := decodeInstr_ok (fetchWindow s)
  rw [step_of_decodeInstr hc hstop hdec] at h
  obtain ⟨why, hexec⟩ := exec_halts (not_inS_of_exec_halted h hhalted (continueStatus_ne_halted s.status reason))
  have hhalts (st : Status) : exec i (s.setStatus st) = .next (s.setStatus (.halted why)) := by
    rw [hexec, State.halt_of_frozen (s := s.setStatus st) hfrozen]
    rfl
  obtain rfl := Host.Outcome.next.inj ((hhalts _).symm.trans h)
  obtain rfl := Status.halted.inj hhalted
  have hagain : step (s.setStatus (.halted why)) = exec i (s.setStatus .ready) :=
    step_of_decodeInstr nofun (by simp) hdec
  exact ⟨rfl, hagain.trans (hhalts .ready)⟩

/-- Settles O37: each word by evaluation of the Decoder. -/
theorem sampleWordsDecode : Obligations.SampleWordsDecode := by
  refine ⟨rfl, rfl, rfl, rfl, rfl, rfl, rfl, rfl, rfl, rfl, rfl, rfl, rfl, rfl, rfl, rfl, rfl, rfl⟩

end Sys2Proof.Machine
end

section
/-! The fetch window at and below the top of memory, and a word placed where the next step fetches it
(spec/20_memory.md R51, R57, R58, spec/60_exceptions.md R161). -/

namespace Sys2Proof.Machine

/-- Below the top of memory the window address is the sum, under both values of `WINDOW_TOP`. -/
theorem windowAddress_of_le {s : State} {k : Nat} (h : s.pc.toNat + k ≤ 0xFFFF) : windowAddress s k = s.pc.toNat + k := by
  unfold windowAddress
  split
  · rfl
  · exact Nat.mod_eq_of_lt (by omega)

theorem toNat_add_ofNat (pc : Word) (k : Nat) : (pc + BitVec.ofNat 16 k).toNat = (pc.toNat + k) % 65536 := by
  rw [BitVec.toNat_add, BitVec.toNat_ofNat, Nat.add_mod_mod]

/-- Byte k of the window in the terms of R58. -/
theorem windowByte_eq (s : State) (k : Nat) : windowByte s k =
    if s.pc.toNat + k ≤ 0xFFFF then s.readByte (s.pc + BitVec.ofNat 16 k)
    else match s.params.windowTop with
      | .zeroFill => 0#8
      | .wrap => s.readByte (s.pc + BitVec.ofNat 16 k) := by
  split
  case isTrue h =>
    rw [windowByte, windowAddress_of_le h, State.readByte, toNat_add_ofNat, Nat.mod_eq_of_lt (by omega)]
  case isFalse h =>
    cases htop : s.params.windowTop with
    | zeroFill =>
      rw [windowByte, windowAddress, htop]
      exact Memory.read_outOfRange s.mem (s.pc.toNat + k) (by omega)
    | wrap =>
      rw [windowByte, windowAddress, htop, State.readByte, toNat_add_ofNat]

/-- Settles O39: each of the four Bytes of the window is the one R58 names. -/
theorem windowIsFourBytesFromPc : Obligations.WindowIsFourBytesFromPc := by
  intro s
  exact congr (congr (congr (congrArg Window.mk (windowByte_eq s 0)) (windowByte_eq s 1)) (windowByte_eq s 2))
    (windowByte_eq s 3)

/-- With room for four Bytes from PC, window Byte k reads as the last of the four stores at its address. -/
theorem windowByte_placeWindow {s : State} (win : Window) (h : s.pc.toNat ≤ 0xFFFC) {k : Nat} (hk : k < 4) :
    windowByte (placeWindow s win) k =
      if k = 3 then win.b3 else if k = 2 then win.b2 else if k = 1 then win.b1 else win.b0 := by
  have haddr (j : Nat) (hj : j < 4) : windowAddress s j = s.pc.toNat + j := windowAddress_of_le (by omega)
  have hmem : windowByte (placeWindow s win) k = ((((s.mem.write (s.pc.toNat + 0) win.b0).write (s.pc.toNat + 1)
      win.b1).write (s.pc.toNat + 2) win.b2).write (s.pc.toNat + 3) win.b3).read (s.pc.toNat + k) := by
    rw [← haddr 0 (by omega), ← haddr 1 (by omega), ← haddr 2 (by omega), ← haddr 3 (by omega), ← haddr k hk]
    rfl
  have hin (j : Nat) (hj : j < 4) : s.pc.toNat + k = s.pc.toNat + j ∧ s.pc.toNat + j ≤ 0xFFFF ↔ k = j := by omega
  simp only [hmem, Memory.read_write, hin 0 (by omega), hin 1 (by omega), hin 2 (by omega), hin 3 (by omega)]
  interval_cases k <;> rfl

theorem fetchWindow_placeWindow {s : State} (win : Window) (h : s.pc.toNat ≤ 0xFFFC) :
    fetchWindow (placeWindow s win) = win := by
  simp [fetchWindow, windowByte_placeWindow win h]

theorem armStep_pc (s : State) : (armStep s).pc = s.pc := by
  cases h : s.status <;> simp [armStep, h]

theorem armStep_status (s : State) : (armStep s).status = if s.status = .created then .ready else s.status := by
  cases h : s.status <;> simp [armStep, h]

/-- The next step after `armStep` is one that fetches (60_exceptions.md R164, R166). -/
theorem armStep_fetches (s : State) : (armStep s).status ≠ .created ∧
    ¬((armStep s).status = .running ∧ (armStep s).stopReq = true) := by
  cases h : s.status <;> simp [armStep, h]

theorem decodeTableWord_eq_some_iff (nbits w : Nat) (i : Instr) :
    decodeTableWord nbits w = some i ↔ decodeInstr (windowOfTableWord nbits w) = .ok i := by
  unfold decodeTableWord
  split <;> simp_all

/-- Settles O40: the placed window is fetched, and the armed block meets no stop before it. -/
theorem placedWordIsFetchedAndRun : Obligations.PlacedWordIsFetchedAndRun := by
  intro s nbits w i hpc hword
  have hfetch : fetchWindow (s.withFetchWord nbits w) = windowOfTableWord nbits w :=
    fetchWindow_placeWindow _ (by rw [armStep_pc]; exact hpc)
  have hdec : decodeInstr (fetchWindow (s.withFetchWord nbits w)) = .ok i := by
    rw [hfetch]
    exact (decodeTableWord_eq_some_iff nbits w i).mp hword
  obtain ⟨hc, hstop⟩ := armStep_fetches s
  refine ⟨hfetch, ?_⟩
  rw [stepRunsDecodedInstruction (s.withFetchWord nbits w) i hc hstop hdec]
  have hstatus : (s.withFetchWord nbits w).status = .running ↔ s.status = .running := by
    have harm : (s.withFetchWord nbits w).status = _ := armStep_status s
    rw [harm]
    split <;> simp_all
  simp only [hstatus]

end Sys2Proof.Machine
end

section
/-! `run()` and `step(instr)`: the Loop as the block's steps, the step hook as the execution of its triple, and which
action is permitted in which status (spec/60_exceptions.md R160 to R166). -/

namespace Sys2Proof.Machine

/-- Between runs `run()` and `step(instr)` are permitted, with everything else (60_exceptions.md R166). -/
theorem permits_of_idle {st : Status} (hc : st ≠ .created) (hr : st ≠ .running) (act : HostAction) :
    permits st act = true := by
  cases st with
  | created => exact absurd rfl hc
  | running => exact absurd rfl hr
  | ready | halted | stopped => cases act <;> rfl

/-- While Running the stop request is the one permitted action (60_exceptions.md R166). -/
theorem permits_running (act : HostAction) : permits .running act = decide (act = .requestStop) := by
  cases act <;> rfl

/-- What is permitted in Created is permitted in every status but Running (60_exceptions.md R166). -/
theorem permits_of_permits_created {st : Status} {act : HostAction} (hr : st ≠ .running)
    (h : permits .created act = true) : permits st act = true := by
  by_cases hc : st = .created
  · exact hc ▸ h
  · exact permits_of_idle hc hr act

/-- Settles O56: the table of permitted actions, status by status. -/
theorem hostActsOnlyWherePermitted : Obligations.HostActsOnlyWherePermitted := by
  refine ⟨fun act s hs hact => ?_, fun s t hs => ⟨?_, ?_⟩, fun s hr => ?_, fun s hc hr => ?_, fun s => ?_⟩
  · exact hostAct_notPermitted act s (by rw [hs, permits_running, decide_eq_false hact])
  · exact hostAct_notPermitted _ s (by rw [hs]; rfl)
  · exact hostAct_notPermitted _ s (by rw [hs]; rfl)
  · have hact (act : HostAction) (h : permits .created act = true) : hostAct act s = performAction act s :=
      hostAct_permitted act s (permits_of_permits_created hr h)
    exact ⟨hact .hardReset rfl, fun img => hact (.load img) rfl, fun reg v => hact (.writeByteReg reg v) rfl,
      fun reg v => hact (.writeWordReg reg v) rfl, fun slot v => hact (.writeF slot v) rfl,
      fun slot k b => hact (.writeFlag slot k b) rfl, fun b => hact (.writeIff b) rfl,
      fun a v => hact (.writeMem a v) rfl⟩
  · exact hostAct_permitted .run s (permits_of_idle hc hr .run)
  · rfl

theorem Decoded.wf_iff (t : Decoded) :
    t.wf = true ↔ t.tag.wf = true ∧ t.len = t.tag.len ∧ t.usedPrefix = (t.tag == .invalid) := by
  simp [Decoded.wf, and_assoc]

/-- A well-formed triple is determined by its tag. -/
theorem triple_eq_of_tag_eq {t : Decoded} {i : Instr} (hwf : t.wf = true) (htag : i.tag = t.tag) : i.triple = t := by
  obtain ⟨-, hlen, hused⟩ := (Decoded.wf_iff t).mp hwf
  obtain ⟨tag, len, used⟩ := t
  simp_all [Instr.triple, Instr.len, Instr.usedPrefix]

theorem executeTriple_of_not_wf {t : Decoded} (hwf : t.wf = false) (win : Window) (s : State) :
    executeTriple t win s = .refused .tripleNotDecoded := by
  simp [executeTriple, hwf]

theorem executeTriple_invalid {t : Decoded} (hwf : t.wf = true) (htag : t.tag = .invalid) (win : Window) (s : State) :
    executeTriple t win s = .next (haltInvalid win.b0 win.b1 s) := by
  simp [executeTriple, hwf, htag]

theorem executeTriple_assemble {t : Decoded} (hwf : t.wf = true) (htag : t.tag ≠ .invalid) {win : Window} {i : Instr}
    (hi : assemble t.tag win = .ok i) (s : State) : executeTriple t win s = exec i s := by
  simp [executeTriple, hwf, htag, hi]

/-- With the window's own triple the hook's execution is the decoded instruction's (60_exceptions.md R163). -/
theorem executeTriple_decode {win : Window} {i : Instr} (hdec : decodeInstr win = .ok i) (s : State) :
    executeTriple (decode win) win s = exec i s := by
  have htriple := decode_eq_triple hdec
  have hwf : (decode win).wf = true := htriple ▸ i.triple_wf
  by_cases htag : (decode win).tag = .invalid
  · have hp : isPrefixByte win.b0 = true := by rwa [decode_tag, unprefixedTag_eq_invalid_iff] at htag
    obtain ⟨j, hj, -, hexec⟩ := decodeInstr_prefixed hp
    obtain rfl : j = i := by simpa using hj.symm.trans hdec
    rw [executeTriple_invalid hwf htag, hexec]
  · exact executeTriple_assemble hwf htag hdec s

/-- Settles O57: the hook takes the operands from the window whatever its opcode; the window's own triple is the step. -/
theorem stepHookExecutesItsTriple : Obligations.StepHookExecutesItsTriple := by
  intro s t hc hr
  have hact (d : Decoded) : hostAct (.stepInstr d) s = executeTriple d (fetchWindow s) (s.setStatus .ready) := by
    rw [hostAct_permitted _ s (permits_of_idle hc hr _), performAction, stepTriple, continueStatus_eq hc, if_neg hr]
  refine ⟨?_, fun hwf htag => ?_, fun hwf htag => ?_, fun hwf => ?_⟩
  · obtain ⟨i, hdec, -⟩ := decodeInstr_ok (fetchWindow s)
    rw [hact, executeTriple_decode hdec, step_of_decodeInstr hc (fun h => hr h.1) hdec, continueStatus_eq hc, if_neg hr]
  · obtain ⟨htagwf, hlen, -⟩ := (Decoded.wf_iff t).mp hwf
    obtain ⟨i, hi, hitag, hops⟩ := assemble_of_wf htagwf htag (fetchWindow s)
    refine ⟨i, triple_eq_of_tag_eq hwf hitag, ?_, ?_⟩
    · rw [encode, hops, hlen]
    · rw [hact, executeTriple_assemble hwf htag hi]
      rfl
  · rw [hact, executeTriple_invalid hwf htag]
    rfl
  · rw [hact, executeTriple_of_not_wf hwf]

/-- One boundary of the Loop inside `run()` (60_exceptions.md R164). -/
theorem runLoop_succ {fuel : Nat} {s t : State} (hrun : s.status = .running) (h : step s = .next t) :
    runLoop (fuel + 1) s = runLoop fuel t := by
  rw [runLoop, if_pos hrun, h]

/-- Settles O58: the first boundary meets the request, and the Loop has ended. -/
theorem runStopsAtThePendingRequest : Obligations.RunStopsAtThePendingRequest := by
  intro s fuel hc hr hreq
  refine ⟨s.setStatus .running, hostAct_permitted .run s (permits_of_idle hc hr .run), ?_⟩
  rw [runLoop_succ rfl (step_stop (s.setStatus .running) rfl hreq)]
  exact runLoop_ended fuel (stopRun (s.setStatus .running)) nofun

/-- The three statuses that a Loop can be left with (60_exceptions.md R164). -/
def RunStatus (st : Status) : Prop := st = .running ∨ st = .stopped ∨ ∃ reason, st = .halted reason

theorem step_runStatus {s t : State} (hrun : s.status = .running) (h : step s = .next t) : RunStatus t.status := by
  obtain ⟨hstop, hinstr⟩ := stepStatusFollowsTheLoop s t h
  by_cases hs : s.status = .running ∧ s.stopReq = true
  · exact .inr (.inl (by rw [hstop hs]))
  · obtain ⟨-, i, -, hS, hhalt⟩ := hinstr hs
    cases hi : inS i with
    | true => exact .inl (by rw [hS hi, if_pos hrun])
    | false => exact .inr (.inr (hhalt hi))

theorem runLoop_runStatus (fuel : Nat) {s : State} (hs : RunStatus s.status) :
    ∃ t, runLoop fuel s = .next t ∧ RunStatus t.status := by
  induction fuel generalizing s with
  | zero => exact ⟨s, rfl, hs⟩
  | succ fuel ih =>
    by_cases hrun : s.status = .running
    · obtain ⟨u, hu⟩ := step_continues (s := s) (by simp [hrun])
      rw [runLoop_succ hrun hu]
      exact ih (step_runStatus hrun hu)
    · exact ⟨s, runLoop_ended _ s hrun, hs⟩

/-- An ended Loop stays as it is at further boundaries. -/
theorem runLoop_add {fuel more : Nat} {s t : State} (h : runLoop fuel s = .next t) (ht : t.status ≠ .running) :
    runLoop (fuel + more) s = .next t := by
  induction fuel generalizing s with
  | zero =>
    obtain rfl := Host.Outcome.next.inj h
    exact runLoop_ended _ s ht
  | succ fuel ih =>
    by_cases hrun : s.status = .running
    · obtain ⟨u, hu⟩ := step_continues (s := s) (by simp [hrun])
      rw [Nat.succ_add, runLoop_succ hrun hu]
      rw [runLoop_succ hrun hu] at h
      exact ih h
    · rw [runLoop_ended _ s hrun] at h ⊢
      exact h

/-- Settles O59, by induction on the number of boundaries: each is a step, and a step answers inside `run()`. -/
theorem runIsStepsUntilItEnds : Obligations.RunIsStepsUntilItEnds :=
  ⟨fun _ => rfl, fun _ _ _ hrun h => runLoop_succ hrun h, fun _ _ _ _ h ht => runLoop_add h ht,
    fun fuel _ hrun => runLoop_runStatus fuel (.inl hrun)⟩

end Sys2Proof.Machine
end

section
/-! What no instruction reads: two runs of one instruction from states that differ only in what it does not look at
(spec/10_state.md R22, R26, R30, R31 to R34, spec/60_exceptions.md R162, R176). -/

namespace Sys2Proof.Machine

/-- What the Executor does from two states, once: to relate the two next states of every instruction it is enough to
relate each family's own two next states. -/
theorem exec_related (Q : Instr → State → State → Prop) (s s' : State)
    (nop : Q .nop (s.advance 1) (s'.advance 1))
    (exAfAf : Q .exAfAf (exchangeAf (s.advance 1)) (exchangeAf (s'.advance 1)))
    (jr : ∀ d, Q (.jrD d) (jumpBy d (s.advance 2)) (jumpBy d (s'.advance 2)))
    (jrCc : ∀ cc d, Q (Instr.jrCc cc d) (jumpByIf cc d s) (jumpByIf cc d s'))
    (incR : ∀ r, Q (Instr.incR r) (incrementR r (s.advance 1)) (incrementR r (s'.advance 1)))
    (decR : ∀ r, Q (Instr.decR r) (decrementR r (s.advance 1)) (decrementR r (s'.advance 1)))
    (rrca : Q .rrca (rotateRightA (s.advance 1)) (rotateRightA (s'.advance 1)))
    (andR : ∀ r, Q (Instr.andR r) (andReg r s) (andReg r s'))
    (xorR : ∀ r, Q (Instr.xorR r) (xorReg r s) (xorReg r s'))
    (orR : ∀ r, Q (Instr.orR r) (orReg r s) (orReg r s'))
    (cpR : ∀ r, Q (Instr.cpR r) (cpReg r s) (cpReg r s'))
    (jpCc : ∀ cc nn, Q (Instr.jpCc cc nn) (jumpIf cc nn s) (jumpIf cc nn s'))
    (jp : ∀ nn, Q (.jpNn nn) ((s.advance 3).setPc nn) ((s'.advance 3).setPc nn))
    (ret : Q .ret (s.advance 1).ret (s'.advance 1).ret)
    (call : ∀ nn, Q (.callNn nn) ((s.advance 3).call nn) ((s'.advance 3).call nn))
    (di : Q .di ((s.advance 1).setIff false) ((s'.advance 1).setIff false))
    (andN : ∀ n, Q (.andN n) (logicAnd n (s.advance 2)) (logicAnd n (s'.advance 2)))
    (xorN : ∀ n, Q (.xorN n) (logicOrXor (s.regs.a ^^^ n) (s.advance 2)) (logicOrXor (s'.regs.a ^^^ n) (s'.advance 2)))
    (orN : ∀ n, Q (.orN n) (logicOrXor (s.regs.a ||| n) (s.advance 2)) (logicOrXor (s'.regs.a ||| n) (s'.advance 2)))
    (cpN : ∀ n, Q (.cpN n) (compareA n (s.advance 2)) (compareA n (s'.advance 2)))
    (halt : ∀ i reason len, inS i = false → Q i (s.halt reason len) (s'.halt reason len))
    (i : Instr) : ∃ t t', exec i s = .next t ∧ exec i s' = .next t' ∧ Q i t t' := by
  induction i using instrShapes with
  | nop => exact ⟨_, _, rfl, rfl, nop⟩
  | exAfAf => exact ⟨_, _, rfl, rfl, exAfAf⟩
  | jr d => exact ⟨_, _, rfl, rfl, jr d⟩
  | jrCc cc d => exact ⟨_, _, exec_jrCc cc d s, exec_jrCc cc d s', jrCc cc d⟩
  | incR r => exact ⟨_, _, exec_incR r s, exec_incR r s', incR r⟩
  | decR r => exact ⟨_, _, exec_decR r s, exec_decR r s', decR r⟩
  | rrca => exact ⟨_, _, rfl, rfl, rrca⟩
  | andR r => exact ⟨_, _, exec_andR r s, exec_andR r s', andR r⟩
  | xorR r => exact ⟨_, _, exec_xorR r s, exec_xorR r s', xorR r⟩
  | orR r => exact ⟨_, _, exec_orR r s, exec_orR r s', orR r⟩
  | cpR r => exact ⟨_, _, exec_cpR r s, exec_cpR r s', cpR r⟩
  | jpCc cc nn => exact ⟨_, _, exec_jpCc cc nn s, exec_jpCc cc nn s', jpCc cc nn⟩
  | jp nn => exact ⟨_, _, rfl, rfl, jp nn⟩
  | ret => exact ⟨_, _, rfl, rfl, ret⟩
  | call nn => exact ⟨_, _, rfl, rfl, call nn⟩
  | di => exact ⟨_, _, rfl, rfl, di⟩
  | andN n => exact ⟨_, _, rfl, rfl, andN n⟩
  | xorN n => exact ⟨_, _, rfl, rfl, xorN n⟩
  | orN n => exact ⟨_, _, rfl, rfl, orN n⟩
  | cpN n => exact ⟨_, _, rfl, rfl, cpN n⟩
  | unimplemented i h =>
    have hi := inS_eq_false_of_unimplemented h
    obtain ⟨reason, hexec⟩ := exec_halts hi
    exact ⟨_, _, hexec s, hexec s', halt i reason i.len hi⟩
  | invalid i h =>
    have hi := inS_eq_false_of_invalid h
    obtain ⟨reason, hexec⟩ := exec_halts hi
    exact ⟨_, _, hexec s, hexec s', halt i reason i.len hi⟩

/-- A relation that says the second next state is a function of the first, as an equation of outcomes. -/
theorem exec_eq_mapNext {i : Instr} {s s' : State} {f : State → State}
    (h : ∃ t t', exec i s = .next t ∧ exec i s' = .next t' ∧ t' = f t) : exec i s' = mapNext f (exec i s) := by
  obtain ⟨t, t', ht, ht', rfl⟩ := h
  rw [ht, ht', mapNext_next]

/-- The same for every instruction but one. -/
theorem exec_eq_mapNext_of_ne {i j : Instr} {s s' : State} {f : State → State} (hij : i ≠ j)
    (h : ∃ t t', exec i s = .next t ∧ exec i s' = .next t' ∧ (i ≠ j → t' = f t)) :
    exec i s' = mapNext f (exec i s) := by
  obtain ⟨t, t', ht, ht', hf⟩ := h
  exact exec_eq_mapNext ⟨t, t', ht, ht', hf hij⟩

/-- No instruction reads or writes IX, IY, I, R or the shadow registers but A' and F' (10_state.md R35). -/
theorem exec_withUnreached (i : Instr) (s : State) (u : Unreached) :
    exec i (s.withUnreached u) = mapNext (fun t => t.withUnreached u) (exec i s) := by
  apply exec_eq_mapNext
  apply exec_related (Q := fun _ t t' => t' = t.withUnreached u)
  case nop | exAfAf | rrca | ret | di => rfl
  case jr | jp | call | andN | xorN | orN | cpN | halt => intros; rfl
  case jrCc => intros; rw [jumpByIf_eq, jumpByIf_eq]; rfl
  case jpCc => intros; rw [jumpIf_eq, jumpIf_eq]; rfl
  case incR | decR | andR | xorR | orR | cpR => intro r; cases r <;> rfl

/-- Settles O44: the fetch reads PC and memory alone, and the instruction does not look at those registers. -/
theorem unreachedRegistersDoNotMatter : Obligations.UnreachedRegistersDoNotMatter := by
  intro s u
  by_cases hc : s.status = .created
  · rw [step_created s hc, step_created (s.withUnreached u) hc]
    rfl
  by_cases hstop : s.status = .running ∧ s.stopReq = true
  · obtain ⟨hrun, hreq⟩ := hstop
    rw [step_stop s hrun hreq, step_stop (s.withUnreached u) hrun hreq]
    rfl
  · obtain ⟨i, hdec, -⟩ := decodeInstr_ok (fetchWindow s)
    rw [step_of_decodeInstr hc hstop hdec, step_of_decodeInstr (s := s.withUnreached u) hc hstop hdec]
    exact exec_withUnreached i (s.setStatus (continueStatus s.status)) u

/-- No instruction but DI reads or writes the latch (10_state.md R34). -/
theorem exec_withIff {i : Instr} (hi : i ≠ .di) (s : State) (b : Bool) :
    exec i (s.setIff b) = mapNext (fun t => t.setIff b) (exec i s) := by
  apply exec_eq_mapNext_of_ne hi
  apply exec_related (Q := fun i t t' => i ≠ .di → t' = t.setIff b)
  case di => exact fun h => absurd rfl h
  case nop | exAfAf | rrca | ret => exact fun _ => rfl
  case jr | jp | call | andN | xorN | orN | cpN | halt => intros; rfl
  case jrCc => intros; rw [jumpByIf_eq, jumpByIf_eq]; rfl
  case jpCc => intros; rw [jumpIf_eq, jumpIf_eq]; rfl
  case incR | decR | andR | xorR | orR | cpR => intro r _; cases r <;> rfl

/-- Settles O45: DI writes the latch whatever it was, and every other instruction commutes with a write of it. -/
theorem latchIsClearedByDiAndReadByNothing : Obligations.LatchIsClearedByDiAndReadByNothing := by
  intro i s b
  by_cases hi : i = .di
  · subst hi
    simp [exec_di, State.advance, State.setPc, State.setIff]
  · have hb : (b && decide (i ≠ .di)) = b := by simp [hi]
    rw [hb]
    exact exec_withIff hi s b

/-- The state with the undefined bits 3 and 5 of F replaced (10_state.md R30). -/
def State.withUndefined (s : State) (b3 b5 : Bool) : State := s.setFlags { s.regs.f with x3 := b3, x5 := b5 }

/-- No instruction but EX AF,AF' reads or writes X3 and X5 (10_state.md R30). -/
theorem exec_withUndefined {i : Instr} (hi : i ≠ .exAfAf) (s : State) (b3 b5 : Bool) :
    exec i (s.withUndefined b3 b5) = mapNext (fun t => t.withUndefined b3 b5) (exec i s) := by
  apply exec_eq_mapNext_of_ne hi
  apply exec_related (Q := fun i t t' => i ≠ .exAfAf → t' = t.withUndefined b3 b5)
  case exAfAf => exact fun h => absurd rfl h
  case nop | rrca | ret | di => exact fun _ => rfl
  case jr | jp | call | andN | xorN | orN | cpN | halt => intros; rfl
  case jrCc => intro cc d _; rw [jumpByIf_eq, jumpByIf_eq]; cases cc <;> rfl
  case jpCc => intro cc nn _; rw [jumpIf_eq, jumpIf_eq]; cases cc <;> rfl
  case incR | decR | andR | xorR | orR | cpR => intro r _; cases r <;> rfl

/-- Settles O46: the bits are not read, and replacing them by themselves shows that they are kept. -/
theorem undefinedFlagBitsAreKept : Obligations.UndefinedFlagBitsAreKept := by
  refine ⟨fun i s t hi h => ?_, fun i s b3 b5 hi => exec_withUndefined hi s b3 b5⟩
  have hself : exec i s = mapNext (fun t => t.withUndefined s.regs.f.x3 s.regs.f.x5) (exec i s) :=
    exec_withUndefined hi s s.regs.f.x3 s.regs.f.x5
  rw [h, mapNext_next] at hself
  have ht := Host.Outcome.next.inj hself
  exact ⟨congrArg (fun u => u.regs.f.x3) ht, congrArg (fun u => u.regs.f.x5) ht,
    congrArg RegSet.f ((exec_frame h).shadow hi)⟩

/-- Settles O47: with F.H and F.N masked after it, the next state of every family is the same. -/
theorem halfCarryAndSubtractAreUnread : Obligations.HalfCarryAndSubtractAreUnread := by
  intro i s half sub hi
  have hrel : ∃ t t', exec i s = .next t ∧ exec i (s.withHalfAndSub half sub) = .next t' ∧
      (i ≠ .exAfAf → t'.withHalfAndSub false false = t.withHalfAndSub false false) := by
    apply exec_related
      (Q := fun i t t' => i ≠ .exAfAf → t'.withHalfAndSub false false = t.withHalfAndSub false false)
    case exAfAf => exact fun h => absurd rfl h
    case nop | rrca | ret | di => exact fun _ => rfl
    case jr | jp | call | andN | xorN | orN | cpN | halt => intros; rfl
    case jrCc => intro cc d _; rw [jumpByIf_eq, jumpByIf_eq]; cases cc <;> rfl
    case jpCc => intro cc nn _; rw [jumpIf_eq, jumpIf_eq]; cases cc <;> rfl
    case incR | decR | andR | xorR | orR | cpR => intro r _; cases r <;> rfl
  obtain ⟨t, t', ht, ht', hmask⟩ := hrel
  rw [ht, ht', mapNext_next, mapNext_next, hmask hi]

end Sys2Proof.Machine
end

section
/-! The draws by tag, and INC and DEC of the Byte at HL (spec/00_scope.md R7, spec/40_alu.md R101, R110, R111). -/

namespace Sys2Proof.Machine

/-- The flag that an instruction leaves open is the free value of its draw (40_alu.md R101, log 5). -/
def DrawnFlag (i : Instr) (s t : State) : Prop :=
  match i.tag with
  | .orR _ | .xorR _ | .orN | .xorN => t.regs.f.pv = Config.drawPvLogic s.drawCount
  | .cpR _ | .cpN => t.regs.f.pv = Config.drawPvCp s.drawCount
  | .incR _ | .decR _ => t.regs.f.h = Config.drawHIncDec s.drawCount
  | _ => True

theorem drawsTaken_of_not_inS {i : Instr} (h : inS i = false) : drawsTaken i = 0 := by
  unfold drawsTaken
  split <;> simp_all [inS, Tag.cls]

theorem drawnFlag_of_not_inS {i : Instr} (h : inS i = false) (s t : State) : DrawnFlag i s t := by
  unfold DrawnFlag
  split <;> simp_all [inS, Tag.cls]

theorem exec_draws {i : Instr} {s t : State} (h : exec i s = .next t) :
    t.drawCount = s.drawCount + drawsTaken i ∧ DrawnFlag i s t := by
  apply exec_inversion (h := h) (Q := fun i s t => t.drawCount = s.drawCount + drawsTaken i ∧ DrawnFlag i s t)
  case nop | exAfAf | rrca | ret | di | jr | jp | call | andN => intros; exact ⟨rfl, trivial⟩
  case xorN | orN | cpN => intros; exact ⟨rfl, rfl⟩
  case jrCc => intro cc d s; rw [jumpByIf_eq]; cases cc <;> exact ⟨rfl, trivial⟩
  case jpCc => intro cc nn s; rw [jumpIf_eq]; cases cc <;> exact ⟨rfl, trivial⟩
  case andR => intro r s; cases r <;> exact ⟨rfl, trivial⟩
  case incR | decR | xorR | orR | cpR => intro r s; cases r <;> exact ⟨rfl, rfl⟩
  case unimplemented =>
    intro i s hi
    have hS := inS_eq_false_of_unimplemented hi
    exact ⟨by rw [drawsTaken_of_not_inS hS]; rfl, drawnFlag_of_not_inS hS _ _⟩
  case invalid =>
    intro i s second hi
    have hS := inS_eq_false_of_invalid hi
    exact ⟨by rw [drawsTaken_of_not_inS hS]; rfl, drawnFlag_of_not_inS hS _ _⟩

/-- Settles O51: the counter and the open flag by the tag of the instruction. -/
theorem drawsAreFreshAndOnlyWhereNamed : Obligations.DrawsAreFreshAndOnlyWhereNamed := by
  intro i s t h
  obtain ⟨hcount, hflag⟩ := exec_draws h
  refine ⟨hcount, ?_, ?_, ?_⟩
  · rintro (⟨r, rfl | rfl⟩ | ⟨n, rfl | rfl⟩)
    · simpa [DrawnFlag] using hflag
    · simpa [DrawnFlag] using hflag
    · exact hflag
    · exact hflag
  · rintro (⟨r, rfl⟩ | ⟨n, rfl⟩)
    · simpa [DrawnFlag] using hflag
    · exact hflag
  · rintro ⟨r, rfl | rfl⟩
    · simpa [DrawnFlag] using hflag
    · simpa [DrawnFlag] using hflag

/-- Settles O50: the operand of INC and DEC is the Byte at HL, and a write of F and of memory leaves HL, A and SP. -/
theorem memoryOperandIsUpdatedInPlace : Obligations.MemoryOperandIsUpdatedInPlace := by
  intro s
  refine ⟨⟨incrementR .memHl (s.advance 1), rfl, ?_, fun a ha => ?_, rfl, rfl, rfl⟩,
    ⟨decrementR .memHl (s.advance 1), rfl, ?_, fun a ha => ?_, rfl, rfl, rfl⟩⟩
  · exact Memory.read_write_same _ _ _
  · exact memoryFrameOfEveryInstruction .incMemHl s _ rfl a (mt List.mem_singleton.mp ha)
  · exact Memory.read_write_same _ _ _
  · exact memoryFrameOfEveryInstruction .decMemHl s _ rfl a (mt List.mem_singleton.mp ha)

end Sys2Proof.Machine
end

section
/-! Call and return: a return from a state that still holds the pushed Word (spec/41_control_flow.md R138). -/

namespace Sys2Proof.Machine

/-- `ret()` where SP is two below and the two stack Bytes are those of a Word (20_memory.md R55). -/
theorem State.ret_of_pushed {u : State} {sp w : Word} (hsp : u.sp = sp - 2#16) (hlo : u.readByte (sp - 2#16) = lo8 w)
    (hhi : u.readByte (sp - 1#16) = hi8 w) : u.ret = { u with pc := w, sp := sp } := by
  have hup : sp - 2#16 + 1#16 = sp - 1#16 := by bv_omega
  have hback : sp - 2#16 + 1#16 + 1#16 = sp := by bv_omega
  have hpc : joinBytes (u.readByte (sp - 2#16 + 1#16)) (u.readByte (sp - 2#16)) = w := by
    rw [hup, hhi, hlo, joinBytes_hi8_lo8]
  rw [State.ret_eq, hsp, hback, ← hpc]
  rfl

/-- The two stack Bytes after `call(addr)` are those of PC (41_control_flow.md R134). -/
theorem State.readByte_call_stack (s : State) (target : Word) :
    (s.call target).readByte (s.sp - 2#16) = lo8 s.pc ∧ (s.call target).readByte (s.sp - 1#16) = hi8 s.pc := by
  simp [State.readByte_call]

/-- Settles O25: the Word that the return pops is the one the call pushed, PC for `call(addr)`, PC + 3 for CALL. -/
theorem callThenRetRestoresPc : Obligations.CallThenRetRestoresPc := by
  refine ⟨fun s target => ?_, fun nn s t u hcall hsp hlo hhi => ?_⟩
  · obtain ⟨hlow, hhigh⟩ := State.readByte_call_stack s target
    rw [State.ret_of_pushed (sub_one_sub_one s.sp) hlow hhigh]
    exact ⟨rfl, rfl, rfl⟩
  · obtain rfl := Host.Outcome.next.inj ((exec_callNn nn s).symm.trans hcall)
    obtain ⟨hlow, hhigh⟩ := State.readByte_call_stack (s.advance 3) nn
    have htsp : ((s.advance 3).call nn).sp = s.sp - 2#16 := sub_one_sub_one s.sp
    have hup : s.sp - 2#16 + 1#16 = s.sp - 1#16 := by bv_omega
    rw [htsp] at hsp hlo hhi
    rw [hup] at hhi
    rw [exec_ret, State.ret_of_pushed (u := u.advance 1) hsp (hlo.trans hlow) (hhi.trans hhigh)]
    rfl

end Sys2Proof.Machine
end

section
/-! The load port, creation and reset (spec/20_memory.md R65, R66, spec/70_reset_and_hazards.md R190 to R192). -/

namespace Sys2Proof.Machine

/-- Addresses outside the copied range read as before (20_memory.md R66). -/
theorem Memory.read_writeBytes_outside {bs : List Byte} {m : Memory} {a b : Nat} (h : b < a ∨ a + bs.length ≤ b) :
    (m.writeBytes a bs).read b = m.read b := by
  induction bs generalizing m a with
  | nil => rfl
  | cons v rest ih =>
    rw [List.length_cons] at h
    rw [Memory.writeBytes, ih (by omega), Memory.read_write_other m a v b (by omega)]

/-- Address `a + k` reads the k-th Byte copied from `a` on, as long as it is at most 0xFFFF (20_memory.md R66). -/
theorem Memory.read_writeBytes_inside {bs : List Byte} {m : Memory} {a b k : Nat} (hk : k < bs.length)
    (hb : b = a + k) (hfit : b ≤ 0xFFFF) : (m.writeBytes a bs).read b = bs[k] := by
  induction bs generalizing m a k with
  | nil => nomatch hk
  | cons v rest ih =>
    rw [Memory.writeBytes]
    cases k with
    | zero =>
      rw [Memory.read_writeBytes_outside (by omega), Memory.read_write, if_pos (by omega), List.getElem_cons_zero]
    | succ k => rw [ih (Nat.lt_of_succ_lt_succ hk) (by omega), List.getElem_cons_succ]

theorem loadImage_of_fits {img : List Byte} (s : State) (h : imageFits img = true) :
    loadImage img s = { s with mem := s.mem.writeBytes 0 img } := by
  rw [loadImage, if_pos h]

/-- Settles O27: by induction on the image, Byte by Byte; only memory is written. -/
theorem loadThenReadReturnsImage : Obligations.LoadThenReadReturnsImage := by
  intro img s hlen
  have hfit : imageFits img = true := decide_eq_true hlen
  refine ⟨by rw [loadReply, if_pos hfit], fun k hk => ?_, fun a ha => ?_, ?_⟩
  · rw [loadImage_of_fits s hfit]
    exact Memory.read_writeBytes_inside hk (Nat.zero_add k).symm (by omega)
  · rw [loadImage_of_fits s hfit]
    exact Memory.read_writeBytes_outside (by omega)
  · rw [loadImage_of_fits s hfit]

theorem Flags.toByte_none : Flags.none.toByte = 0#8 := rfl

/-- Settles O28: every element but PC and the status is the created one. -/
theorem hardResetSetsEntryAddress : Obligations.HardResetSetsEntryAddress := by
  refine ⟨fun _ => rfl, fun p => ⟨rfl, fun a => Memory.read_empty a, fun reg => ?_, fun slot => ?_,
    rfl, rfl, rfl, rfl, rfl⟩, rfl⟩
  · cases reg with
    | primary x | shadow x => cases x <;> rfl
    | i | r => rfl
  · cases slot <;> exact Flags.toByte_none

/-- Settles O29: the empty memory is canonical, and the reset sets the status Ready. -/
theorem resetMeetsInvariant : Obligations.ResetMeetsInvariant :=
  ⟨fun _ => ⟨Memory.empty_wf, Memory.empty_wf, nofun⟩, Memory.empty_wf, nofun⟩

end Sys2Proof.Machine
end

section
/-! The tables of conditions and operands, and the host's accessors (spec/30_encoding.md R75 to R77, spec/10_state.md R27
to R29, spec/70_reset_and_hazards.md R195). -/

namespace Sys2Proof.Machine

/-- Settles O52, row by row of the table; a condition with code 0 of its flag holds of the cleared bit. -/
theorem conditionTestsOneFlagBit : Obligations.ConditionTestsOneFlagBit := by
  intro f
  have hclear (b : Bool) : (!b) = true ↔ b = false := Iff.of_eq (Bool.not_eq_true' b)
  exact ⟨hclear f.z, Iff.rfl, hclear f.c, Iff.rfl, hclear f.pv, Iff.rfl, hclear f.s, Iff.rfl, rfl, rfl, rfl, rfl⟩

/-- Settles O53, row by row of the table. -/
theorem operandCodesNameTheirRegisters : Obligations.OperandCodesNameTheirRegisters :=
  fun _ _ => ⟨rfl, rfl, rfl, rfl, rfl, rfl, rfl, rfl, rfl, rfl, rfl, rfl, rfl, rfl, rfl, rfl⟩

/-- Where `toByte` places each flag (10_state.md R27, R28). -/
theorem Flags.getLsbD_toByte (f : Flags) :
    f.toByte.getLsbD 4 = f.h ∧ f.toByte.getLsbD 7 = f.s ∧ f.toByte.getLsbD 6 = f.z ∧ f.toByte.getLsbD 5 = f.x5 ∧
      f.toByte.getLsbD 3 = f.x3 ∧ f.toByte.getLsbD 2 = f.pv ∧ f.toByte.getLsbD 1 = f.n ∧ f.toByte.getLsbD 0 = f.c := by
  obtain ⟨s, z, x5, h, x3, pv, n, c⟩ := f
  revert s z x5 h x3 pv n c
  decide

/-- `toByte(fromByte(b))` clears bit 4 and keeps every other bit (10_state.md R28). -/
theorem Flags.toByte_fromByte (b : Byte) : (Flags.fromByte b).toByte = b &&& 0xEF#8 := by
  revert b; decide

@[simp] theorem flagsOf_setFlagsOf (slot slot' : FlagSlot) (f : Flags) (s : State) :
    flagsOf slot' (setFlagsOf slot f s) = if slot' = slot then f else flagsOf slot' s := by
  cases slot <;> cases slot' <;> rfl

/-- A write of F or F' changes that element only. -/
theorem setFlagsOf_eq (slot : FlagSlot) (f : Flags) (s : State) : setFlagsOf slot f s = { s with
    regs := { s.regs with f := (setFlagsOf slot f s).regs.f },
    shadow := { s.shadow with f := (setFlagsOf slot f s).shadow.f } } := by
  cases slot <;> rfl

theorem hostReadF_hostWriteF (slot slot' : FlagSlot) (v : Byte) (s : State) :
    hostReadF slot' (hostWriteF slot v s) = if slot' = slot then v &&& 0xEF#8 else hostReadF slot' s := by
  rw [hostReadF, hostWriteF, flagsOf_setFlagsOf]
  split
  · exact Flags.toByte_fromByte v
  · rfl

/-- Settles O54: the bits of a packed F, and that only bit 4 is lost on the way there and back. -/
theorem packOfUnpackClearsHalfCarry : Obligations.PackOfUnpackClearsHalfCarry :=
  ⟨fun b => ⟨rfl, Flags.toByte_fromByte b⟩, Flags.getLsbD_toByte,
    fun slot b s => by rw [hostReadF_hostWriteF, if_pos rfl]⟩

theorem RegSet.get_put (rs : RegSet) (x y : SetReg) (v : Byte) :
    (rs.put x v).get y = if y = x then v else rs.get y := by
  cases x <;> cases y <;> rfl

theorem Flags.get_put (f : Flags) (j k : FlagName) (b : Bool) :
    (f.put j b).get k = if k = j then b else f.get k := by
  cases j <;> cases k <;> rfl

theorem hostReadByteReg_hostWriteByteReg (reg reg' : ByteReg) (v : Byte) (s : State) :
    hostReadByteReg reg' (hostWriteByteReg reg v s) = if reg' = reg then v else hostReadByteReg reg' s := by
  cases reg <;> cases reg' <;> simp [hostReadByteReg, hostWriteByteReg, RegSet.get_put]

/-- A write of a Byte register changes the registers of its kind only. -/
theorem hostWriteByteReg_eq (reg : ByteReg) (v : Byte) (s : State) : hostWriteByteReg reg v s = { s with
    regs := { (hostWriteByteReg reg v s).regs with f := s.regs.f },
    shadow := { (hostWriteByteReg reg v s).shadow with f := s.shadow.f },
    i := (hostWriteByteReg reg v s).i, r := (hostWriteByteReg reg v s).r } := by
  cases reg with
  | primary x | shadow x => cases x <;> rfl
  | i | r => rfl

theorem hostReadWordReg_hostWriteWordReg (reg reg' : WordReg) (v : Word) (s : State) :
    hostReadWordReg reg' (hostWriteWordReg reg v s) = if reg' = reg then v else hostReadWordReg reg' s := by
  cases reg <;> cases reg' <;> rfl

theorem hostReadFlag_hostWriteFlag (slot slot' : FlagSlot) (k k' : FlagName) (b : Bool) (s : State) :
    hostReadFlag slot' k' (hostWriteFlag slot k b s) =
      if slot' = slot ∧ k' = k then b else hostReadFlag slot' k' s := by
  rw [hostReadFlag, hostWriteFlag, flagsOf_setFlagsOf]
  by_cases hslot : slot' = slot
  · subst hslot
    rw [if_pos rfl, Flags.get_put]
    simp [hostReadFlag]
  · simp [hslot, hostReadFlag]

theorem hostWriteMem_outOfRange (a : Nat) (v : Byte) (s : State) (h : 0xFFFF < a) : hostWriteMem a v s = s := by
  rw [hostWriteMem, Memory.write_outOfRange s.mem a v h]

/-- Settles O55, kind by kind of the elements the host names. -/
theorem hostAccessorsReadBackWhatTheyWrote : Obligations.HostAccessorsReadBackWhatTheyWrote := by
  refine ⟨fun reg v s => ⟨fun reg' => hostReadByteReg_hostWriteByteReg reg reg' v s, hostWriteByteReg_eq reg v s⟩,
    fun reg v s => ⟨fun reg' => hostReadWordReg_hostWriteWordReg reg reg' v s, ?_⟩,
    fun slot k b s => ⟨fun slot' k' => hostReadFlag_hostWriteFlag slot slot' k k' b s, setFlagsOf_eq slot _ s⟩,
    fun slot v s => ⟨fun slot' => hostReadF_hostWriteF slot slot' v s, fun slot' k' hne => ?_, setFlagsOf_eq slot _ s⟩,
    fun b s => ⟨hostReadIff_hostWriteIff b s, rfl⟩,
    fun a v s => ⟨fun b => hostReadMem_hostWriteMem a b v s, rfl, fun ha => ?_⟩⟩
  · cases reg <;> rfl
  · rw [hostReadFlag, hostWriteF, flagsOf_setFlagsOf, if_neg hne, hostReadFlag]
  · exact ⟨hostWriteMem_outOfRange a v s ha, Memory.read_outOfRange s.mem a ha⟩

end Sys2Proof.Machine
end
